-- ==== Sys2Proof/Word.lean ====
section
/-! DEFINITION. The word types of SPIFSM and the buffer handle (`00_scope.md` R8, `20_memory.md` R71). -/

namespace Sys2Proof

/-- A 32-bit word: an operand of a command (R103), a `LENW`-bit length, an `AW`-bit address (R8). -/
abbrev Word := BitVec 32

/-- One byte: a `WORD`-bit frame (R8), a FIFO entry (R35), a byte of BUF (R72). -/
abbrev Byte := BitVec 8

/-- The 192-bit `cmd_word` port (R100, R101). -/
abbrev CmdWord := BitVec 192

/-- A handle names the bytes `base + i` of BUF for `0 ≤ i < len` (R71). -/
structure Handle where
  base : Word
  len  : Word
  deriving DecidableEq, Repr

end Sys2Proof
end

