-- ==== Sys2Proof/Config.lean ====
section
/-! DEFINITION. The parameters of SPIFSM (`00_scope.md` R8) and the values the spec leaves open
(`93_implementation_defined.md`). A free value is an `opaque` constant without a body: nothing can
be proved about the value it has. -/

namespace Sys2Proof

/-- `C`, the capacity of each hardware FIFO in bytes (R8). -/
def Config.fifoCapacity : Nat := 8

/-- `BURST`, the most bytes pushed in one refill step, `C - 1` (R8). -/
def Config.burst : Nat := 7

/-- `REF_HZ`, the reference clock of the rate divider (R8). -/
def Config.refHz : Nat := 8000000

/-- `MIN_HZ`, the lowest accepted rate (R8). -/
def Config.minHz : Nat := 1954

/-- `MAX_HZ`, the highest accepted rate (R8). -/
def Config.maxHz : Nat := 8000000

/-- `TXMARK`, the transmit watermark threshold, a constant (R8, R31). -/
def Config.txMark : Nat := 1

/-- The number of addresses of BUF, `2^AW` (R8, R71). -/
def Config.bufSize : Nat := 2 ^ 32

/-- What a byte of BUF that nothing has written reads as.
DESIGN CHOICE (log 11, unsafe): the spec gives BUF no contents after reset. -/
def Config.unlistedByte : Byte := 0

/-- The two OPEN parameters of R8 (log 9). They stand in `State`, so that a statement about every state
holds for every value of them. -/
structure Params where
  /-- `NCS - 1`: there is at least one chip-select line. -/
  moreLines : Nat
  /-- `LOOPBACK`: the peer answers each frame with the byte it was sent (R213). -/
  loopback : Bool
  deriving DecidableEq, Repr

/-- `NCS`, the number of chip-select lines. -/
def Params.ncs (p : Params) : Nat := p.moreLines + 1

/-- The parameters `State.reset` carries. DESIGN CHOICE (log 9): one line, and a peer that may answer any byte. -/
def Config.resetParams : Params := { moreLines := 0, loopback := false }

/-- U1 (R45): the 12 bits `div` holds between the reset numbered by the argument and the first
successful SETRATE after it. -/
opaque Config.freeDiv : Nat → BitVec 12

/-- U2 (R45): the `irq` output before INIT, "a draw at every instant"; the argument numbers the instants. -/
opaque Config.drawIrq : Nat → Bool

/-- U8 (R211 (e)): the draw of `cs_active` when `csid` or `csdef` is written under an asserted line.
The first argument numbers the step, the second the write within the step. -/
opaque Config.drawCs : Nat → Nat → Bool

/-- U7 (R28): the line, if any, an id of `NCS` or more drives; the arguments are the instant and the id. -/
opaque Config.freeLine : Nat → Word → Option Nat

end Sys2Proof
end

