-- ==== Sys2Proof/Machine/Operands.lean ====
section
/-! DEFINITION. Operand forms: zero extension, the rate arithmetic, lengths and handles
(`00_scope.md` R9, `40_control_ops.md` R143, `42_submit.md` R171 to R173). -/

namespace Sys2Proof.Machine

/-- `zext_32(v)` (R9). -/
def zext {w : Nat} (v : BitVec w) : Word := v.setWidth 32

/-- `zext_32` of a one-bit register kept as a Boolean. -/
def zextBit (b : Bool) : Word := if b then 1 else 0

/-- `min(a, b)`, unsigned (R9). -/
def minWord (a b : Word) : Word := if a.toNat ≤ b.toNat then a else b

/-- A handle is well-formed iff `base + len ≤ 2^AW` (R71). -/
def handleWf (h : Handle) : Bool := h.base.toNat + h.len.toNat ≤ Config.bufSize

/-- Whether address `a` is one of the bytes `h` names (R71). -/
def handleHas (h : Handle) (a : Nat) : Bool := h.base.toNat ≤ a && a < h.base.toNat + h.len.toNat

/-- The two byte ranges intersect (R77): both are non-empty and each starts before the other ends. -/
def handlesOverlap (w r : Handle) : Bool :=
  0 < w.len.toNat && 0 < r.len.toNat &&
    w.base.toNat < r.base.toNat + r.len.toNat && r.base.toNat < w.base.toNat + w.len.toNat

/-- SUBMIT's handles are legal: none of the forms (a), (b), (c) of R171. -/
def submitLegal (w : Handle) (r : Option Handle) : Bool :=
  handleWf w &&
    match r with
    | none => true
    | some h => handleWf h && !handlesOverlap w h

/-- `tx_len = min(requested_len, wlen)` (R172). -/
def txLength (n : Word) (w : Handle) : Word := minWord n w.len

/-- `io_len`: `min(tx_len, rlen)` with a read buffer, `tx_len` without (R172). -/
def ioLength (n : Word) (w : Handle) (r : Option Handle) : Word :=
  match r with
  | none => txLength n w
  | some h => minWord (txLength n w) h.len

/-- `min(BURST, io_len)`, the size of the first burst (R173). -/
def firstBurst (io : Word) : Nat := min Config.burst io.toNat

/-- `min(tx_offset + BURST, io_len)`, the sum in more than `LENW` bits (R143, R185). -/
def burstEnd (tx io : Word) : Word := BitVec.ofNat 32 (min (tx.toNat + Config.burst) io.toNat)

/-- `burst - 1` in the 3-bit threshold field (R31, R174, R186). -/
def burstMark (burst : Nat) : BitVec 3 := BitVec.ofNat 3 (burst - 1)

/-- SETRATE accepts exactly the rates from `MIN_HZ` to `MAX_HZ` (R134). -/
def rateInRange (hz : Word) : Bool := Config.minHz ≤ hz.toNat && hz.toNat ≤ Config.maxHz

/-- `REF_HZ / hz - 1`, floor division (R134). -/
def rateDivisor (hz : Word) : BitVec 12 := BitVec.ofNat 12 (Config.refHz / hz.toNat - 1)

/-- `REF_HZ / (div + 1)`, floor division (R135). -/
def dividedRate (div : BitVec 12) : Word := BitVec.ofNat 32 (Config.refHz / (div.toNat + 1))

end Sys2Proof.Machine
end

