-- ==== Sys2Proof/Syntax.lean ====
section
/-! DEFINITION. The operations of SPIFSM, one constructor per row of spec/opcode_table.json
(`30_encoding.md` R104). -/

namespace Sys2Proof

/-- A decoded command. An operand narrower than 32 bits has its own width here; that the bits above it
are 0 (R103) is checked where the command word is decoded. -/
inductive Instr where
  /-- INIT, `initialize()` (R130). -/
  | init
  /-- SETCLIENT, `set_client(target)`, `a0` = client id (R131). -/
  | setclient (id : Word)
  /-- ISBUSY, `is_busy()` (R132). -/
  | isbusy
  /-- SETCS, `specify_chip_select(id)`, `a0` = id (R133). -/
  | setcs (id : Word)
  /-- SETRATE, `set_rate(hz)`, `a0` = hz (R134). -/
  | setrate (hz : Word)
  /-- GETRATE, `get_rate()` (R135). -/
  | getrate
  /-- SETPOL, `set_polarity(level)`, `a0[0]` = level (R136). -/
  | setpol (level : BitVec 1)
  /-- GETPOL, `get_polarity()` (R137). -/
  | getpol
  /-- SETPHA, `set_phase(edge)`, `a0[0]` = edge (R138). -/
  | setpha (edge : BitVec 1)
  /-- GETPHA, `get_phase()` (R139). -/
  | getpha
  /-- HOLDLOW, `hold_low()` (R140). -/
  | holdlow
  /-- RELLOW, `release_low()` (R141). -/
  | rellow
  /-- WRBYTE, `write_byte(v)`, `a0[7:0]` = v (R160). -/
  | wrbyte (v : Byte)
  /-- RDBYTE, `read_byte()` (R161). -/
  | rdbyte
  /-- RWBYTE, `read_write_byte(v)`, `a0[7:0]` = v (R162). -/
  | rwbyte (v : Byte)
  /-- SUBMIT, `read_write_bytes(write_buffer, optional read_buffer, requested_len)` (R170): `a0` = n,
  `a1`, `a2` = the write handle, and, iff `rxp` = 1, `a3`, `a4` = the read handle. -/
  | submit (n : Word) (w : Handle) (r : Option Handle)
  /-- SERVICE, the interrupt handler (R180). -/
  | service
  /-- GPIOINIT, `initialize_gpio_pins(cs, mosi, miso, sck)` (R200). -/
  | gpioinit
  deriving DecidableEq, Repr

end Sys2Proof
end

