-- ==== Sys2Proof/WellFormed.lean ====
section
/-! DEFINITION. When a command's operands are well-formed. The operand widths are in the types; what is
left is SUBMIT's handles (`42_submit.md` R171): the block answers ILLEGAL to a SUBMIT that is not well-formed. -/

namespace Sys2Proof

/-- The state-free legality of a decoded command (R108 (6), R171). -/
def Instr.wf : Instr → Bool
  | .submit _ w r => Machine.submitLegal w r
  | .init => true
  | .setclient _ => true
  | .isbusy => true
  | .setcs _ => true
  | .setrate _ => true
  | .getrate => true
  | .setpol _ => true
  | .getpol => true
  | .setpha _ => true
  | .getpha => true
  | .holdlow => true
  | .rellow => true
  | .wrbyte _ => true
  | .rdbyte => true
  | .rwbyte _ => true
  | .service => true
  | .gpioinit => true

end Sys2Proof
end

