-- ==== Sys2Proof/Decode.lean ====
section
/-! DEFINITION. The command format of `30_encoding.md`: from a 192-bit `cmd_word` to an `Instr` or to the
reason it is illegal (R101 to R104, R108 (1) to (4)), and back. -/

namespace Sys2Proof

/-- The six 32-bit words of a command (R101): the header `W0` and the operand words `a0` to `a4`. -/
structure Cmd where
  w0 : Word
  a0 : Word
  a1 : Word
  a2 : Word
  a3 : Word
  a4 : Word
  deriving DecidableEq, Repr

/-- `W0 = cmd_word[31:0]` … `W5 = cmd_word[191:160]` (R101). -/
def unpackCmd (c : CmdWord) : Cmd where
  w0 := c.extractLsb' 0 32
  a0 := c.extractLsb' 32 32
  a1 := c.extractLsb' 64 32
  a2 := c.extractLsb' 96 32
  a3 := c.extractLsb' 128 32
  a4 := c.extractLsb' 160 32

/-- The inverse packing (R101). -/
def packCmd (c : Cmd) : CmdWord := c.a4 ++ c.a3 ++ c.a2 ++ c.a1 ++ c.a0 ++ c.w0

/-- The 18 operations without their operands (R104). -/
inductive Op where
  | init | setclient | isbusy | setcs | setrate | getrate | setpol | getpol | setpha | getpha
  | holdlow | rellow | wrbyte | rdbyte | rwbyte | submit | service | gpioinit
  deriving DecidableEq, Repr

/-- The opcode column of R104. -/
def opCode : Op → BitVec 8
  | .init => 0x00
  | .setclient => 0x01
  | .isbusy => 0x02
  | .setcs => 0x03
  | .setrate => 0x04
  | .getrate => 0x05
  | .setpol => 0x06
  | .getpol => 0x07
  | .setpha => 0x08
  | .getpha => 0x09
  | .holdlow => 0x0A
  | .rellow => 0x0B
  | .wrbyte => 0x0C
  | .rdbyte => 0x0D
  | .rwbyte => 0x0E
  | .submit => 0x10
  | .service => 0x20
  | .gpioinit => 0x30

/-- The opcode map read the other way; every other value of the 8 bits is reserved (R108 (2)). -/
def opOfCode (b : BitVec 8) : Option Op :=
  match b.toNat with
  | 0x00 => some .init
  | 0x01 => some .setclient
  | 0x02 => some .isbusy
  | 0x03 => some .setcs
  | 0x04 => some .setrate
  | 0x05 => some .getrate
  | 0x06 => some .setpol
  | 0x07 => some .getpol
  | 0x08 => some .setpha
  | 0x09 => some .getpha
  | 0x0A => some .holdlow
  | 0x0B => some .rellow
  | 0x0C => some .wrbyte
  | 0x0D => some .rdbyte
  | 0x0E => some .rwbyte
  | 0x10 => some .submit
  | 0x20 => some .service
  | 0x30 => some .gpioinit
  | _ => none

/-- The `mask` of an opcode-table row: all of `W0`, but for SUBMIT's bit 8 (R104). -/
def opMask : Op → Word
  | .submit => 0xFFFFFEFF
  | _ => 0xFFFFFFFF

/-- The `match` of an opcode-table row: the opcode in the low byte (R104). -/
def opMatch (o : Op) : Word := (opCode o).setWidth 32

/-- Why a command word is illegal: the tests (1) to (4) of R108. -/
inductive IllegalWord where
  /-- (1) `W0[31:9] ≠ 0`. -/
  | reservedHeader
  /-- (2) `op` is not one of the 18 values. -/
  | unknownOpcode
  /-- (3) `rxp = 1` and `op` is not SUBMIT. -/
  | rxpWithoutSubmit
  /-- (4) an operand's must-be-zero bits are not zero. -/
  | operandBits
  deriving DecidableEq, Repr

/-- What the decoder answers. -/
inductive Decoded where
  | ok (i : Instr)
  | illegal (why : IllegalWord)
  deriving DecidableEq, Repr

/-- `W0[7:0]` (R102). -/
def headerOp (w0 : Word) : BitVec 8 := w0.extractLsb' 0 8

/-- `W0[8]` (R102). -/
def headerRxp (w0 : Word) : Bool := w0.getLsbD 8

/-- `W0[31:9]` (R102). -/
def headerReserved (w0 : Word) : BitVec 23 := w0.extractLsb' 9 23

/-- An operand that occupies the low `n` bits of its word; the bits above must be 0 (R103, R108 (4)). -/
def narrowOperand (n : Nat) (a : Word) (k : BitVec n → Instr) : Decoded :=
  if a.toNat < 2 ^ n then .ok (k (a.setWidth n)) else .illegal .operandBits

/-- The operands of each operation, the operand column of R104. -/
def decodeOperands (o : Op) (c : Cmd) : Decoded :=
  match o with
  | .init => .ok .init
  | .setclient => .ok (.setclient c.a0)
  | .isbusy => .ok .isbusy
  | .setcs => .ok (.setcs c.a0)
  | .setrate => .ok (.setrate c.a0)
  | .getrate => .ok .getrate
  | .setpol => narrowOperand 1 c.a0 .setpol
  | .getpol => .ok .getpol
  | .setpha => narrowOperand 1 c.a0 .setpha
  | .getpha => .ok .getpha
  | .holdlow => .ok .holdlow
  | .rellow => .ok .rellow
  | .wrbyte => narrowOperand 8 c.a0 .wrbyte
  | .rdbyte => .ok .rdbyte
  | .rwbyte => narrowOperand 8 c.a0 .rwbyte
  | .submit =>
    .ok (.submit c.a0 ⟨c.a1, c.a2⟩ (if headerRxp c.w0 then some ⟨c.a3, c.a4⟩ else none))
  | .service => .ok .service
  | .gpioinit => .ok .gpioinit

/-- The tests (1) to (4) of R108 in their order, over the six words. -/
def decodeCmd (c : Cmd) : Decoded :=
  if headerReserved c.w0 ≠ 0 then .illegal .reservedHeader
  else
    match opOfCode (headerOp c.w0) with
    | none => .illegal .unknownOpcode
    | some o =>
      if headerRxp c.w0 = true ∧ o ≠ .submit then .illegal .rxpWithoutSubmit
      else decodeOperands o c

/-- The decoder: total on every 192-bit command word. -/
def decode (c : CmdWord) : Decoded := decodeCmd (unpackCmd c)

/-- The header word: `op` in `[7:0]`, `rxp` in `[8]`, zeros above (R102). -/
def headerWord (o : Op) (rxp : Bool) : Word :=
  (opCode o).setWidth 32 ||| (if rxp then 0x100 else 0)

/-- A command whose only operand word is `a0`; unused words are written 0. -/
def plainCmd (o : Op) (a0 : Word) : Cmd := ⟨headerWord o false, a0, 0, 0, 0, 0⟩

/-- The six words of a command (R101 to R104). -/
def encodeCmd : Instr → Cmd
  | .init => plainCmd .init 0
  | .setclient id => plainCmd .setclient id
  | .isbusy => plainCmd .isbusy 0
  | .setcs id => plainCmd .setcs id
  | .setrate hz => plainCmd .setrate hz
  | .getrate => plainCmd .getrate 0
  | .setpol level => plainCmd .setpol (level.setWidth 32)
  | .getpol => plainCmd .getpol 0
  | .setpha edge => plainCmd .setpha (edge.setWidth 32)
  | .getpha => plainCmd .getpha 0
  | .holdlow => plainCmd .holdlow 0
  | .rellow => plainCmd .rellow 0
  | .wrbyte v => plainCmd .wrbyte (v.setWidth 32)
  | .rdbyte => plainCmd .rdbyte 0
  | .rwbyte v => plainCmd .rwbyte (v.setWidth 32)
  | .submit n w none => ⟨headerWord .submit false, n, w.base, w.len, 0, 0⟩
  | .submit n w (some r) => ⟨headerWord .submit true, n, w.base, w.len, r.base, r.len⟩
  | .service => plainCmd .service 0
  | .gpioinit => plainCmd .gpioinit 0

/-- The encoder. -/
def encode (i : Instr) : CmdWord := packCmd (encodeCmd i)

/-- The operation of a decoded command: its row of the opcode table. -/
def opOf : Instr → Op
  | .init => .init
  | .setclient _ => .setclient
  | .isbusy => .isbusy
  | .setcs _ => .setcs
  | .setrate _ => .setrate
  | .getrate => .getrate
  | .setpol _ => .setpol
  | .getpol => .getpol
  | .setpha _ => .setpha
  | .getpha => .getpha
  | .holdlow => .holdlow
  | .rellow => .rellow
  | .wrbyte _ => .wrbyte
  | .rdbyte => .rdbyte
  | .rwbyte _ => .rwbyte
  | .submit _ _ _ => .submit
  | .service => .service
  | .gpioinit => .gpioinit

/-- The command word of an opcode-table word of `nbits` bits: bit 0 is `cmd_word[0]`, and every bit above
`nbits` is 0. -/
def tableCmdWord (nbits w : Nat) : CmdWord := BitVec.ofNat 192 (w % 2 ^ nbits)

/-- What the decoder reads from an opcode-table word. -/
def decodeTableWord (nbits w : Nat) : Option Instr :=
  match decode (tableCmdWord nbits w) with
  | .ok i => some i
  | .illegal _ => none

end Sys2Proof
end

