-- ==== Sys2Proof/Machine/State.lean ====
section
/-! DEFINITION. Every piece of state of SPIFSM and of the environment it drives (`10_state.md`), the records
its ports put out, the moves the agents still have to make, and the state after reset (R44). -/

namespace Sys2Proof.Machine

/-- BUF (R70, R72): the bytes that differ from what an unlisted address reads as, addresses rising. -/
abbrev Memory := List Host.Cell

/-- The chip-select framing mode `csmode` (R28). -/
inductive CsMode where
  | auto
  | hold
  deriving DecidableEq, Repr

/-- `fmt.proto`: INIT writes `SINGLE`; `other` is any value the spec does not name (R29, log 18). -/
inductive Proto where
  | single
  | other
  deriving DecidableEq, Repr

/-- `fmt.endian`: INIT writes `MSB` (R29, log 18). -/
inductive Endian where
  | msb
  | other
  deriving DecidableEq, Repr

/-- `fmt.dir`: INIT writes `RX` (R29, log 18). -/
inductive Direction where
  | rx
  | other
  deriving DecidableEq, Repr

/-- The frame format `fmt` (R29). -/
structure Format where
  proto  : Proto
  endian : Endian
  dir    : Direction
  len    : Nat
  deriving DecidableEq, Repr

/-- The hard faults, in the order of their codes 1 to 7 (R225). -/
inductive HardFault where
  /-- 1, SERVICE receive phase: RXF empty before `rx_offset = tx_offset` (R227). -/
  | rxFifoEmpty
  /-- 2, SERVICE transmit phase: TXF full before a push (R228). -/
  | txFifoFull
  /-- 3, SERVICE: the transmit cell is empty where a buffer is required (R229). -/
  | noTxBuffer
  /-- 4, SERVICE completion with no client (R230). -/
  | noClient
  /-- 5, SUBMIT or a byte operation pushes to a full TXF (R231). -/
  | txOverflow
  /-- 6, a frame ends with RXF full (R232). -/
  | rxOverrun
  /-- 7, a burst of zero bytes (R233). -/
  | watermarkUnderflow
  deriving DecidableEq, Repr

/-- The kind of a blocking byte operation (R163). -/
inductive ByteKind where
  | wr
  | rd
  | rw
  deriving DecidableEq, Repr

/-- The micro-step counter `cur`, the only program counter (R39). -/
inductive Cur where
  /-- `NONE`: no operation in progress. -/
  | none
  /-- `S_RXT`: about to test the receive-pending flag. -/
  | sRxt
  /-- `S_RXL`: in the receive drain loop. -/
  | sRxl
  /-- `S_TXT`: about to test the transmit-pending flag. -/
  | sTxt
  /-- `S_TXL(i, before, end)`: in the transmit refill loop. -/
  | sTxl (i before stop : Word)
  /-- `S_FIN`: completion check. -/
  | sFin
  /-- `B_WAIT(k)`: a byte operation waits for `rx_not_empty`. -/
  | bWait (k : ByteKind)
  deriving DecidableEq, Repr

/-- The status of a response (R106). -/
inductive Status where
  | ok
  | busy
  | inval
  | illegal
  deriving DecidableEq, Repr

/-- A record of the response port (R105). -/
structure Response where
  status : Status
  data   : Word
  deriving DecidableEq, Repr

/-- The status of a completion record; no rule produces `hardwareError` (R107, U15). -/
inductive DoneStatus where
  | success
  | hardwareError
  deriving DecidableEq, Repr

/-- A record of the completion port (R107). -/
structure Completion where
  client : Word
  w      : Handle
  r      : Option Handle
  len    : Word
  status : DoneStatus
  deriving DecidableEq, Repr

/-- An event of the wire trace (R212). -/
inductive WireEvent where
  | csAssert (id : Word)
  | csDeassert (id : Word)
  | frame (out answer : Byte)
  deriving DecidableEq, Repr

/-- A move of one of the agents of R11, of the reset port (R250) or of the host on BUF (R75). -/
inductive Move where
  /-- Caller or Dispatcher presents a command on `cmd_word` (R12 (a), R100). -/
  | issue (c : CmdWord)
  /-- The Sequencer takes a micro-step (R12 (b)). -/
  | micro
  /-- The Shifter starts a frame (R209). -/
  | s1
  /-- The Shifter ends a frame; the peer answers `p` unless `LOOPBACK` (R210, R213). -/
  | s2 (p : Byte)
  /-- `rst` is asserted (R250). -/
  | rst
  /-- The host loads a byte of BUF (R75). -/
  | hostRead (a : Word)
  /-- The host stores a byte of BUF (R75). -/
  | hostWrite (a : Word) (v : Byte)
  deriving DecidableEq, Repr

/-- The Transfer State (R20), but for the client. -/
structure Transfer where
  busy     : Bool
  /-- The transmit cell; `none` is `txc.own = 0` (R23). -/
  txc      : Option Handle
  /-- The receive cell (R23). -/
  rxc      : Option Handle
  ioLen    : Word
  txOffset : Word
  rxOffset : Word
  deriving DecidableEq, Repr

/-- The fields of the Register Interface that hold a value (R25). -/
structure Regs where
  /-- The clock divisor (R26); read through `divisor`. -/
  div    : BitVec 12
  /-- The model's own: a SETRATE has written `div` since reset (R45, log 5). -/
  divSet : Bool
  pol    : BitVec 1
  pha    : BitVec 1
  csid   : Word
  /-- One default level per line, line 0 first (R28). -/
  csdef  : List Bool
  csmode : CsMode
  /-- The inter-frame delay controls: read and written by nothing (R30). -/
  delay  : Nat
  fmt    : Format
  rxmark : BitVec 3
  /-- The flash-mode control: read and written by nothing (R30). -/
  fctrl  : Nat
  /-- `ie.txwm` (R32). -/
  ieTx   : Bool
  /-- `ie.rxwm` (R32). -/
  ieRx   : Bool
  deriving DecidableEq, Repr

/-- The FIFO unit, the in-flight frame and the chip-select line (R35 to R37). Head of a queue first. -/
structure Link where
  txf      : List Byte
  rxf      : List Byte
  sr       : Option Byte
  csActive : Bool
  deriving DecidableEq, Repr

/-- The records the block has put out, oldest first (R105, R107, R212). -/
structure Ports where
  responses   : List Response
  completions : List Completion
  wire        : List WireEvent
  deriving DecidableEq, Repr

/-- The whole system: the state of `10_state.md`, BUF, the records put out and the moves to come. -/
structure State where
  xfer   : Transfer
  /-- `client`: `none` is `client.valid = 0` (R24). -/
  client : Option Word
  regs   : Regs
  link   : Link
  /-- `fault`: `none` is 0 (R38). -/
  fault  : Option HardFault
  cur    : Cur
  /-- The pins `cs`, `mosi`, `miso`, `sck` in bits 3 to 0 (R41). -/
  pinfn  : BitVec 4
  inited : Bool
  mem    : Memory
  ports  : Ports
  /-- The OPEN parameters (R8, log 9). -/
  params : Params
  /-- The model's own: the moves the agents still have to make, the next first (R12, log 2). -/
  env    : List Move
  /-- The model's own: numbers the steps, for the values drawn at a step (log 7). -/
  tick   : Nat
  /-- The model's own: numbers the resets, for the value `div` has after one (log 5). -/
  epoch  : Nat
  deriving DecidableEq, Repr

/-- Why the machine stops with no next state. -/
inductive Fault where
  /-- A step other than reset in the hard fault state: "no step is enabled" (R226). Raised by `step`.
  Safe: the block halts. -/
  | halted (f : HardFault)
  /-- A micro-step would access an address outside BUF; the rules show it cannot happen in a run (R183, R186).
  Raised by the micro-steps `S_RXL` and `S_TXL`. Safe (log 13). -/
  | noSuchAddress (a : Nat)
  /-- `S_TXL(i, before, end)` with `i > end`: no rule gives this micro-step an effect (R186), and no run reaches it.
  Raised by the micro-step `S_TXL`. Safe (log 14). -/
  | noMicroStep
  deriving DecidableEq, Repr

/-- Why the model gives a step no meaning. -/
inductive Refusal where
  /-- The instruction has no meaning yet. Raised by `exec` only. Safe. -/
  | notModelled (mnemonic : String)
  /-- The host accesses a byte of a buffer the block owns: "A model gives a host access to an owned byte no
  meaning (it refuses it)" (R75, U13). Raised by the host moves. Safe (log 16). -/
  | ownedByte (a : Nat)
  deriving DecidableEq, Repr

/-- The Transfer State after reset: empty (R44). -/
def Transfer.reset : Transfer where
  busy     := false
  txc      := none
  rxc      := none
  ioLen    := 0
  txOffset := 0
  rxOffset := 0

/-- The Register Interface after reset. The spec gives these fields no value ("U", R44, R45).
DESIGN CHOICE (log 4, unsafe): zero, `AUTO` and `other`; nothing reads them before INIT or SUBMIT writes them. -/
def Regs.reset (p : Params) : Regs where
  div    := 0
  divSet := false
  pol    := 0
  pha    := 0
  csid   := 0
  csdef  := List.replicate p.ncs false
  csmode := .auto
  delay  := 0
  fmt    := { proto := .other, endian := .other, dir := .other, len := 0 }
  rxmark := 0
  fctrl  := 0
  ieTx   := false
  ieRx   := false

/-- The FIFO unit and the Shifter after reset: empty, the line released (R44). -/
def Link.reset : Link where
  txf      := []
  rxf      := []
  sr       := none
  csActive := false

/-- The state right after reset of a block with the parameters `p`, no move to come (R44). -/
def State.resetWith (p : Params) : State where
  xfer   := Transfer.reset
  client := none
  regs   := Regs.reset p
  link   := Link.reset
  fault  := none
  cur    := .none
  pinfn  := 0
  inited := false
  mem    := []
  ports  := { responses := [], completions := [], wire := [] }
  params := p
  env    := []
  tick   := 0
  epoch  := 0

/-- The machine right after reset (R44). -/
def State.reset : State := State.resetWith Config.resetParams

end Sys2Proof.Machine
end

