-- ==== Sys2Proof/Machine/Flags.lean ====
section
/-! DEFINITION. The derived bits and outputs: level conditions, pending flags, status bits, `irq`, the
numbers on the ports, the physical chip-select lines, and the document's state names
(`10_state.md` R33, R34, R37, R40, R42; `30_encoding.md` R100, R106; `60_exceptions.md` R225). -/

namespace Sys2Proof.Machine

/-- `rx_level = |RXF| > rxmark` (R31, R33). -/
def rxLevel (s : State) : Bool := s.regs.rxmark.toNat < s.link.rxf.length

/-- `tx_level = |TXF| < TXMARK` (R31, R33). -/
def txLevel (s : State) : Bool := s.link.txf.length < Config.txMark

/-- `ip.rxwm = ie.rxwm AND rx_level` (R33). -/
def ipRx (s : State) : Bool := s.regs.ieRx && rxLevel s

/-- `ip.txwm = ie.txwm AND tx_level` (R33). -/
def ipTx (s : State) : Bool := s.regs.ieTx && txLevel s

/-- `irq = ip.rxwm OR ip.txwm` (R42); before INIT a draw at every instant (R45, log 6). -/
def irq (s : State) : Bool := if s.inited then ipRx s || ipTx s else Config.drawIrq s.tick

/-- `rx_not_empty = |RXF| > 0` (R34). -/
def rxNotEmpty (s : State) : Bool := 0 < s.link.rxf.length

/-- `tx_full = (|TXF| = C)` (R34). -/
def txFull (s : State) : Bool := s.link.txf.length = Config.fifoCapacity

/-- `|RXF| = C`, the test of `S2` (R210). -/
def rxFull (s : State) : Bool := s.link.rxf.length = Config.fifoCapacity

/-- The condition of the completion check (R187). -/
def transferComplete (s : State) : Bool :=
  s.xfer.txOffset = s.xfer.ioLen && s.xfer.rxOffset = s.xfer.ioLen

/-- `cmd_ready`: no operation in progress and no hard fault (R100). -/
def cmdReady (s : State) : Bool := s.cur = .none && s.fault = none

/-- The Shifter step `S1` is enabled (R208, R209). -/
def s1Enabled (s : State) : Bool := s.fault = none && s.link.sr = none && s.link.txf ≠ []

/-- The Shifter step `S2` is enabled (R208, R210). -/
def s2Enabled (s : State) : Bool := s.fault = none && s.link.sr ≠ none

/-- A micro-step is enabled: an operation is in progress, no hard fault, and a byte operation's wait is
lifted by `rx_not_empty` (R12 (b), R163). -/
def microEnabled (s : State) : Bool :=
  s.fault = none &&
    match s.cur with
    | .none => false
    | .bWait _ => rxNotEmpty s
    | _ => true

/-- The codes of the hard faults (R225). -/
def hardFaultCode : HardFault → BitVec 3
  | .rxFifoEmpty => 1
  | .txFifoFull => 2
  | .noTxBuffer => 3
  | .noClient => 4
  | .txOverflow => 5
  | .rxOverrun => 6
  | .watermarkUnderflow => 7

/-- The `fault_code` port (R100, R225). -/
def faultCode (s : State) : BitVec 3 :=
  match s.fault with
  | none => 0
  | some f => hardFaultCode f

/-- `rsp_status` (R106). -/
def statusCode : Status → BitVec 2
  | .ok => 0
  | .busy => 1
  | .inval => 2
  | .illegal => 3

/-- `done_status` (R107). -/
def doneStatusCode : DoneStatus → BitVec 1
  | .success => 0
  | .hardwareError => 1

/-- The line `csid` names; for an id of `NCS` or more the line, if any, is a free value (R28, U7, log 8). -/
def selectedLine (s : State) : Option Nat :=
  if s.regs.csid.toNat < s.params.ncs then some s.regs.csid.toNat
  else (Config.freeLine s.tick s.regs.csid).filter (fun k => decide (k < s.params.ncs))

/-- The physical level of line `k`: its `csdef` bit, complemented while it is asserted (R37, R211).
DESIGN CHOICE (log 21, unsafe): after a write of `csid` or `csdef` under an asserted line the spec leaves the levels open (R133 (b),
R259); here the line the new `csid` names is asserted iff `cs_active` was drawn 1, and every other line, the old one too, is at
its default level. -/
def lineLevel (s : State) (k : Nat) : Option Bool :=
  s.regs.csdef[k]?.map (fun d => if s.link.csActive = true ∧ selectedLine s = some k then !d else d)

/-- The value GETRATE reads: `div` once SETRATE has written it, until then the value drawn at reset
(R45, U1, log 5). -/
def divisor (s : State) : BitVec 12 := if s.regs.divSet then s.regs.div else Config.freeDiv s.epoch

/-- The document's state names, a function of the state that no rule reads (R40). -/
inductive Phase where
  | idle
  | sending
  | receiving
  | done
  deriving DecidableEq, Repr

/-- The function of R40. -/
def phase (s : State) : Phase :=
  if s.xfer.busy then
    match s.cur with
    | .sRxt => .receiving
    | .sRxl => .receiving
    | .sFin => if transferComplete s then .done else .sending
    | .none => .sending
    | .sTxt => .sending
    | .sTxl _ _ _ => .sending
    | .bWait _ => .sending
  else .idle

/-- BUF address `a` belongs to the block (R75). -/
def ownedByBlock (s : State) (a : Nat) : Bool :=
  (match s.xfer.txc with
   | none => false
   | some h => handleHas h a) ||
  (match s.xfer.rxc with
   | none => false
   | some h => handleHas h a)

end Sys2Proof.Machine
end

