-- ==== Sys2Proof/Machine/Ops.lean ====
section
/-! DEFINITION. The named operations the meanings are made of: BUF (`20_memory.md`), records and faults
(`30_encoding.md` R105, R107; `60_exceptions.md` R226), FIFOs (`45_fifo_shifter.md` R206), cells (`10_state.md`
R23), the chip-select fields (`45_fifo_shifter.md` R211), the illegal prologue (`40_control_ops.md` R142). -/

namespace Sys2Proof.Machine

/-- The outcome of a step or of a meaning. -/
abbrev Result := Host.Outcome State Fault Refusal

/-- Applies `f` to the next state, if there is one. -/
def onNext (f : State → State) (o : Result) : Result :=
  match o with
  | .next s => .next (f s)
  | .fault r => .fault r
  | .refused r => .refused r

/-- `MemRead(a, 1)` (R72). -/
def memRead (m : Memory) (a : Nat) : Byte :=
  match m with
  | [] => Config.unlistedByte
  | (k, v) :: rest => if a = k then v else memRead rest a

/-- Stores `v` at `a`, the list staying sorted; a byte equal to what an unlisted address reads as is not listed. -/
def memWrite (m : Memory) (a : Nat) (v : Byte) : Memory :=
  match m with
  | [] => if v = Config.unlistedByte then [] else [(a, v)]
  | (k, x) :: rest =>
    if a < k then
      if v = Config.unlistedByte then (k, x) :: rest else (a, v) :: (k, x) :: rest
    else if a = k then
      if v = Config.unlistedByte then rest else (a, v) :: rest
    else (k, x) :: memWrite rest a v

/-- The canonical form of BUF: addresses above `lo` strictly rising and below `2^AW`, no entry equal to what an
unlisted address reads as. -/
def memSorted (lo : Nat) (m : Memory) : Bool :=
  match m with
  | [] => true
  | (k, v) :: rest =>
    lo ≤ k && k < Config.bufSize && v ≠ Config.unlistedByte && memSorted (k + 1) rest

/-- The canonical form of BUF. -/
def Memory.wf (m : Memory) : Bool := memSorted 0 m

/-- The `n` bytes of BUF from address `a`, in increasing address (R73). -/
def memBytes (m : Memory) (a : Nat) (n : Nat) : List Byte :=
  match n with
  | 0 => []
  | k + 1 => memRead m a :: memBytes m (a + 1) k

/-- Gives `k` the address `base + off`, if it is an address of BUF (R71, log 13). -/
def atAddress (base off : Word) (k : Nat → Result) : Result :=
  if base.toNat + off.toNat < Config.bufSize then k (base.toNat + off.toNat)
  else .fault (.noSuchAddress (base.toNat + off.toNat))

/-- `respond(status, data)` (R105). -/
def respond (st : Status) (data : Word) (s : State) : State :=
  { s with ports.responses := s.ports.responses ++ [⟨st, data⟩] }

/-- `emit Wire(e)` (R212). -/
def emitWire (e : WireEvent) (s : State) : State :=
  { s with ports.wire := s.ports.wire ++ [e] }

/-- `emit Done(...)` (R107). -/
def emitDone (d : Completion) (s : State) : State :=
  { s with ports.completions := s.ports.completions ++ [d] }

/-- Hard fault entry, `raise HardFault(f)`: the first code sticks, nothing else changes; `cur` keeps its value and
no response is given (R38, R226). -/
def raiseHardFault (f : HardFault) (s : State) : State :=
  match s.fault with
  | none => { s with fault := some f }
  | some _ => s

/-- `respond(ILLEGAL, 0)` and nothing else (R108). -/
def illegal (s : State) : Result := .next (respond .illegal 0 s)

/-- The prologue test (5) of R108: before INIT the operation is illegal (R43, R142, R253). -/
def whenInited (s : State) (k : Result) : Result := if s.inited then k else illegal s

/-- A BUSY check (R221). -/
def whenIdle (s : State) (k : Result) : Result :=
  if s.xfer.busy then .next (respond .busy 0 s) else k

/-- `push(TXF, v)`; the caller tests for room first (R206). -/
def pushTx (v : Byte) (s : State) : State := { s with link.txf := s.link.txf ++ [v] }

/-- Pushes bytes in order, testing `|TXF| = C` before each; `error` holds the state at the failed test
(R170, R173). -/
def pushBytes : List Byte → State → Except State State
  | [], s => .ok s
  | b :: bs, s => if txFull s then .error s else pushBytes bs (pushTx b s)

/-- The line may be disturbed by a write of `csid` or `csdef` (R211 (e)): under an asserted line `cs_active` is a draw,
and a released line is a wire event with the old id. `k` numbers the write within the step (log 7). -/
def disturbLine (k : Nat) (s : State) : State :=
  if s.link.csActive = true ∧ Config.drawCs s.tick k = false then
    emitWire (.csDeassert s.regs.csid) { s with link.csActive := false }
  else s

/-- `csid <- v` (R211 (e)). -/
def writeCsid (v : Word) (s : State) : State := { disturbLine 1 s with regs.csid := v }

/-- `csdef <- v` (R211 (e)). -/
def writeCsdef (v : List Bool) (s : State) : State := { disturbLine 0 s with regs.csdef := v }

/-- `csmode <- AUTO`: an asserted line with no frame in flight is released at once (R211 (c)). -/
def writeCsAuto (s : State) : State :=
  if s.link.csActive = true ∧ s.link.sr = none then
    emitWire (.csDeassert s.regs.csid) { s with regs.csmode := .auto, link.csActive := false }
  else { s with regs.csmode := .auto }

/-- `csmode <- HOLD`: `cs_active` does not change (R211 (d)). -/
def writeCsHold (s : State) : State := { s with regs.csmode := .hold }

/-- All counters to zero (R130, R188). -/
def zeroCounters (s : State) : State :=
  { s with xfer.ioLen := 0, xfer.txOffset := 0, xfer.rxOffset := 0 }

/-- Both interrupt sources disarmed (R32). -/
def disarmBoth (s : State) : State := { s with regs.ieTx := false, regs.ieRx := false }

/-- Reset (R250): every piece of state takes its value of R44, the wire trace starts again empty, BUF is not
changed. The parameters, the moves to come and the records the host already has are not the block's (log 17). -/
def resetBlock (s : State) : State :=
  { State.resetWith s.params with
    mem := s.mem
    ports.responses := s.ports.responses
    ports.completions := s.ports.completions
    env := s.env
    tick := s.tick
    epoch := s.epoch + 1 }

end Sys2Proof.Machine
end

