-- ==== Sys2Proof/Machine/ByteOps.lean ====
section
/-! DEFINITION. The blocking single-byte operations (`41_byte_ops.md`): the `Issue` step pushes one byte, the
micro-step at `B_WAIT` waits for the answer. -/

namespace Sys2Proof.Machine

/-- The `Issue` step of the exchange (R163). -/
def byteExchange (k : ByteKind) (v : Byte) (s : State) : Result :=
  whenInited s
    (whenIdle s
      (if txFull s then .next (raiseHardFault .txOverflow s)
       else .next { pushTx v s with cur := .bWait k }))

/-- `data_k(r)` (R163): WRBYTE drops the received byte. -/
def byteAnswer : ByteKind → Byte → Word
  | .wr, _ => 0
  | .rd, r => zext r
  | .rw, r => zext r

/-- The micro-step at `B_WAIT(k)` (R163): held while RXF is empty, then pops the head of RXF and answers. -/
def microByteWait (k : ByteKind) (s : State) : Result :=
  match s.link.rxf with
  | [] => .next s
  | r :: rest =>
    .next (respond .ok (byteAnswer k r) { s with link.rxf := rest, cur := .none })

/-- WRBYTE (R160). -/
def execWrbyte (v : Byte) (s : State) : Result := byteExchange .wr v s

/-- RDBYTE (R161): the byte sent is 0x00. -/
def execRdbyte (s : State) : Result := byteExchange .rd 0 s

/-- RWBYTE (R162). -/
def execRwbyte (v : Byte) (s : State) : Result := byteExchange .rw v s

end Sys2Proof.Machine
end

