-- ==== Sys2Proof/Machine/Control.lean ====
section
/-! DEFINITION. The control operations (`40_control_ops.md`): each starts and finishes in its `Issue` step. -/

namespace Sys2Proof.Machine

/-- The frame format INIT sets (R29, R130). -/
def initFormat : Format := { proto := .single, endian := .msb, dir := .rx, len := 8 }

/-- The writes of INIT in the document's order (R130). -/
def initFields (s : State) : State :=
  let s := { s with regs.pol := 0, regs.pha := 0, regs.fmt := initFormat }
  let s := disarmBoth s
  let s := writeCsdef (List.replicate s.params.ncs true) s
  let s := writeCsid 0 s
  let s := writeCsHold s
  let s := zeroCounters s
  { s with inited := true }

/-- INIT (R130): "Always succeeds". -/
def execInit (s : State) : Result := .next (respond .ok 0 (initFields s))

/-- SETCLIENT (R131): a second call is illegal. -/
def execSetclient (id : Word) (s : State) : Result :=
  match s.client with
  | some _ => illegal s
  | none => .next (respond .ok 0 { s with client := some id })

/-- ISBUSY (R132). -/
def execIsbusy (s : State) : Result := .next (respond .ok (zextBit s.xfer.busy) s)

/-- SETCS (R133): no busy check. -/
def execSetcs (id : Word) (s : State) : Result :=
  whenInited s (.next (respond .ok 0 (writeCsid id s)))

/-- SETRATE (R134): INVAL before BUSY; the answer is the requested rate. -/
def execSetrate (hz : Word) (s : State) : Result :=
  whenInited s
    (if rateInRange hz then
      whenIdle s (.next (respond .ok hz { s with regs.div := rateDivisor hz, regs.divSet := true }))
    else .next (respond .inval 0 s))

/-- GETRATE (R135). -/
def execGetrate (s : State) : Result :=
  whenInited s (.next (respond .ok (dividedRate (divisor s)) s))

/-- SETPOL (R136). -/
def execSetpol (level : BitVec 1) (s : State) : Result :=
  whenInited s (whenIdle s (.next (respond .ok 0 { s with regs.pol := level })))

/-- GETPOL (R137): no busy check. -/
def execGetpol (s : State) : Result := whenInited s (.next (respond .ok (zext s.regs.pol) s))

/-- SETPHA (R138). -/
def execSetpha (edge : BitVec 1) (s : State) : Result :=
  whenInited s (whenIdle s (.next (respond .ok 0 { s with regs.pha := edge })))

/-- GETPHA (R139): no busy check. -/
def execGetpha (s : State) : Result := whenInited s (.next (respond .ok (zext s.regs.pha) s))

/-- HOLDLOW (R140): no busy check; `cs_active` does not change. -/
def execHoldlow (s : State) : Result := whenInited s (.next (respond .ok 0 (writeCsHold s)))

/-- RELLOW (R141): no busy check; the line is released at once if no frame is in flight. -/
def execRellow (s : State) : Result := whenInited s (.next (respond .ok 0 (writeCsAuto s)))

end Sys2Proof.Machine
end

