-- ==== Sys2Proof/Machine/Gpio.lean ====
section
/-! DEFINITION. The GPIO helper (`44_gpio.md`). -/

namespace Sys2Proof.Machine

/-- GPIOINIT (R200): the four pins are switched; legal before INIT, no busy check. -/
def execGpioinit (s : State) : Result := .next (respond .ok 0 { s with pinfn := 0b1111 })

end Sys2Proof.Machine
end

