-- ==== Sys2Proof/Machine/Service.lean ====
section
/-! DEFINITION. The interrupt service pass (`43_service.md`): SERVICE starts it, the micro-steps of R181 to R188
run it. -/

namespace Sys2Proof.Machine

/-- SERVICE (R180, R238): the `Issue` step writes `cur` and nothing else. -/
def execService (s : State) : Result := whenInited s (.next { s with cur := .sRxt })

/-- Micro-step at `S_RXT` (R181). -/
def microRxTest (s : State) : Result :=
  .next { s with cur := if ipRx s then .sRxl else .sTxt }

/-- The end of the drain (R184): with more to send the transmit source is armed and the receive source disarmed;
otherwise neither enable bit is written. -/
def drainEnd (s : State) : State :=
  if s.xfer.txOffset = s.xfer.ioLen then { s with cur := .sTxt }
  else { s with regs.ieTx := true, regs.ieRx := false, cur := .sTxt }

/-- Micro-step at `S_RXL` (R182 to R184): one pop, stored at `rxc.base + rx_offset` if a read buffer is owned and
discarded if not. -/
def microDrain (s : State) : Result :=
  if s.xfer.rxOffset = s.xfer.txOffset then .next (drainEnd s)
  else
    match s.link.rxf with
    | [] => .next (raiseHardFault .rxFifoEmpty s)
    | v :: rest =>
      match s.xfer.rxc with
      | none =>
        .next { s with link.rxf := rest, xfer.rxOffset := s.xfer.rxOffset + 1, cur := .sRxl }
      | some h =>
        atAddress h.base s.xfer.rxOffset fun a =>
          .next { s with
            link.rxf := rest
            mem := memWrite s.mem a v
            xfer.rxOffset := s.xfer.rxOffset + 1
            cur := .sRxl }

/-- Micro-step at `S_TXT` (R185). -/
def microTxTest (s : State) : Result :=
  if ipTx s then
    let stop := burstEnd s.xfer.txOffset s.xfer.ioLen
    if stop = s.xfer.txOffset then .next (raiseHardFault .watermarkUnderflow s)
    else .next { s with cur := .sTxl s.xfer.txOffset s.xfer.txOffset stop }
  else .next { s with cur := .sFin }

/-- Loop exit at `S_TXL` (R186). -/
def refillEnd (before stop : Word) (s : State) : State :=
  { s with
    xfer.txOffset := stop
    regs.rxmark := burstMark (stop.toNat - before.toNat)
    regs.ieTx := false
    regs.ieRx := true
    cur := .sFin }

/-- Micro-step at `S_TXL(i, before, end)` (R186): one push, or the loop exit. -/
def microRefill (i before stop : Word) (s : State) : Result :=
  if i.toNat < stop.toNat then
    if txFull s then .next (raiseHardFault .txFifoFull s)
    else
      match s.xfer.txc with
      | none => .next (raiseHardFault .noTxBuffer s)
      | some h =>
        atAddress h.base i fun a =>
          .next { pushTx (memRead s.mem a) s with cur := .sTxl (i + 1) before stop }
  else if i = stop then .next (refillEnd before stop s)
  else .fault .noMicroStep

/-- Completion actions up to the hand-over of the buffers (R188): the chip-select pulse, both sources disarmed. A frame in
flight keeps the line asserted (log 20). -/
def completionStart (s : State) : State := disarmBoth (writeCsHold (writeCsAuto s))

/-- `take(txc)` and `take(rxc)` (R23, R188): both cells left empty. -/
def takeCells (s : State) : State := { s with xfer.txc := none, xfer.rxc := none }

/-- Completion (R188), one micro-step: pulse, disarm, take the cells, emit the record, zero the counters, clear `busy`,
respond. -/
def completeTransfer (s : State) : Result :=
  let s := completionStart s
  match s.xfer.txc with
  | none => .next (raiseHardFault .noTxBuffer s)
  | some w =>
    let r := s.xfer.rxc
    let s := takeCells s
    match s.client with
    | none => .next (raiseHardFault .noClient s)
    | some id =>
      let s := emitDone { client := id, w := w, r := r, len := s.xfer.ioLen, status := .success } s
      let s := zeroCounters s
      .next (respond .ok 0 { s with xfer.busy := false, cur := .none })

/-- Micro-step at `S_FIN` (R187). -/
def microFinish (s : State) : Result :=
  if transferComplete s then completeTransfer s
  else .next (respond .ok 0 { s with cur := .none })

end Sys2Proof.Machine
end

