-- ==== Sys2Proof/Machine/Submit.lean ====
section
/-! DEFINITION. Asynchronous submission (`42_submit.md`): one `Issue` step that primes TXF and arms the
watermark sources. -/

namespace Sys2Proof.Machine

/-- The writes of an accepted SUBMIT after the priming pushes of `cnt` bytes (R170, R174): `ie.txwm` is written only
when more than one burst is needed. -/
def armTransfer (w : Handle) (r : Option Handle) (cnt : Nat) (s : State) : State :=
  { s with
    xfer.txOffset := BitVec.ofNat 32 cnt
    xfer.txc := some w
    xfer.rxc := (match r with
      | none => s.xfer.rxc
      | some h => some h)
    xfer.rxOffset := 0
    regs.rxmark := burstMark cnt
    regs.ieRx := true
    regs.ieTx := decide (cnt < s.xfer.ioLen.toNat) || s.regs.ieTx }

/-- The accepting branch of SUBMIT (R170): the empty burst and the full TXF are hard faults, and the writes made
before one stay made. -/
def acceptSubmit (n : Word) (w : Handle) (r : Option Handle) (s : State) : Result :=
  let io := ioLength n w r
  let cnt := firstBurst io
  let s := { s with xfer.busy := true, xfer.ioLen := io }
  if cnt = 0 then .next (raiseHardFault .watermarkUnderflow s)
  else
    match pushBytes (memBytes s.mem w.base.toNat cnt) s with
    | .error s => .next (raiseHardFault .txOverflow s)
    | .ok s => .next (respond .ok 0 (armTransfer w r cnt s))

/-- SUBMIT (R170): illegal handles, then INVAL for a zero length, then BUSY (R171, R175, R224). -/
def execSubmit (n : Word) (w : Handle) (r : Option Handle) (s : State) : Result :=
  whenInited s
    (if submitLegal w r then
      if txLength n w = 0 then .next (respond .inval 0 s)
      else whenIdle s (acceptSubmit n w r s)
    else illegal s)

end Sys2Proof.Machine
end

