-- ==== Sys2Proof/Machine/Dispatch.lean ====
section
/-! DEFINITION. One arm per operation: the `Issue` step of a decoded command. -/

namespace Sys2Proof.Machine

def exec (i : Instr) (s : State) : Host.Outcome State Fault Refusal :=
  match i with
  | .init => Sys2Proof.Machine.execInit s
  | .setclient id => Sys2Proof.Machine.execSetclient id s
  | .isbusy => Sys2Proof.Machine.execIsbusy s
  | .setcs id => Sys2Proof.Machine.execSetcs id s
  | .setrate hz => Sys2Proof.Machine.execSetrate hz s
  | .getrate => Sys2Proof.Machine.execGetrate s
  | .setpol level => Sys2Proof.Machine.execSetpol level s
  | .getpol => Sys2Proof.Machine.execGetpol s
  | .setpha edge => Sys2Proof.Machine.execSetpha edge s
  | .getpha => Sys2Proof.Machine.execGetpha s
  | .holdlow => Sys2Proof.Machine.execHoldlow s
  | .rellow => Sys2Proof.Machine.execRellow s
  | .wrbyte v => Sys2Proof.Machine.execWrbyte v s
  | .rdbyte => Sys2Proof.Machine.execRdbyte s
  | .rwbyte v => Sys2Proof.Machine.execRwbyte v s
  | .submit n w r => Sys2Proof.Machine.execSubmit n w r s
  | .service => Sys2Proof.Machine.execService s
  | .gpioinit => Sys2Proof.Machine.execGpioinit s

end Sys2Proof.Machine
end

