-- ==== Sys2Proof/Machine/Shifter.lean ====
section
/-! DEFINITION. The Shifter steps `S1` and `S2` (`45_fifo_shifter.md` R209, R210, R213). A step that is not enabled is
not taken: nothing changes (log 2). -/

namespace Sys2Proof.Machine

/-- `cs_active <- 1` with its wire event, if the line is not asserted (R209). -/
def assertLine (s : State) : State :=
  if s.link.csActive then s
  else emitWire (.csAssert s.regs.csid) { s with link.csActive := true }

/-- `cs_active <- 0` with its wire event, if `csmode = AUTO` (R210). -/
def releaseIfAuto (s : State) : State :=
  match s.regs.csmode with
  | .hold => s
  | .auto => emitWire (.csDeassert s.regs.csid) { s with link.csActive := false }

/-- `S1`, frame start (R209). -/
def shiftOut (s : State) : State :=
  match s.link.sr, s.link.txf with
  | none, b :: rest => assertLine { s with link.txf := rest, link.sr := some b }
  | none, [] => s
  | some _, _ => s

/-- The peer's answer to the byte `b` (R213): an echo when `LOOPBACK`, else the byte `p` the environment chose. -/
def peerAnswer (s : State) (b p : Byte) : Byte := if s.params.loopback then b else p

/-- `S2`, frame end (R210). -/
def shiftIn (p : Byte) (s : State) : State :=
  match s.link.sr with
  | none => s
  | some b =>
    if rxFull s then raiseHardFault .rxOverrun s
    else
      let answer := peerAnswer s b p
      let s := { s with link.rxf := s.link.rxf ++ [answer], link.sr := none }
      releaseIfAuto (emitWire (.frame b answer) s)

end Sys2Proof.Machine
end

