-- ==== Sys2Proof/Machine/Moves.lean ====
section
/-! DEFINITION. The steps of R12: `Issue` of the command on the port, `Micro` of the Sequencer, `S1` and `S2`, reset,
and the host's accesses to BUF; and which of them the next move is (log 2). -/

namespace Sys2Proof.Machine

/-- The Sequencer's micro-step at `cur` (R39); there is none at `NONE`. -/
def microStep (s : State) : Result :=
  match s.cur with
  | .none => .next s
  | .sRxt => microRxTest s
  | .sRxl => microDrain s
  | .sTxt => microTxTest s
  | .sTxl i before stop => microRefill i before stop s
  | .sFin => microFinish s
  | .bWait k => microByteWait k s

/-- `Issue` (R12 (a), R142): the command word is decoded; a word that fails one of the tests (1) to (4) of R108 is
answered ILLEGAL (log 1). -/
def issueCmd (c : CmdWord) (s : State) : Result :=
  match decode c with
  | .ok i => exec i s
  | .illegal _ => illegal s

/-- The host loads the byte at `a`: refused if the block owns it, else nothing changes (R72, R75, log 16). -/
def hostLoad (a : Word) (s : State) : Result :=
  if ownedByBlock s a.toNat then .refused (.ownedByte a.toNat) else .next s

/-- The host stores `v` at `a`: refused if the block owns the byte (R75, log 16). -/
def hostStore (a : Word) (v : Byte) (s : State) : Result :=
  if ownedByBlock s a.toNat then .refused (.ownedByte a.toNat)
  else .next { s with mem := memWrite s.mem a.toNat v }

/-- A move of the Caller, the Dispatcher or the host: it waits while an operation is in progress, and the Sequencer goes
on (R12, R13, R79). -/
def whenReady (s : State) (k : Result) : Result := if s.cur = .none then k else microStep s

/-- A step in a state with no hard fault: the next move of `env`, or, with no move to come, the Sequencer's (log 2). -/
def takeMove (s : State) : Result :=
  match s.env with
  | [] => microStep s
  | .issue c :: rest => whenReady s (issueCmd c { s with env := rest })
  | .micro :: rest => microStep { s with env := rest }
  | .s1 :: rest => .next (shiftOut { s with env := rest })
  | .s2 p :: rest => .next (shiftIn p { s with env := rest })
  | .rst :: rest => .next (resetBlock { s with env := rest })
  | .hostRead a :: rest => whenReady s (hostLoad a { s with env := rest })
  | .hostWrite a v :: rest => whenReady s (hostStore a v { s with env := rest })

/-- A step: in the hard fault state only reset is taken (R226, R250, R251). -/
def nextMove (s : State) : Result :=
  match s.fault with
  | none => takeMove s
  | some f =>
    match s.env with
    | .rst :: rest => .next (resetBlock { s with env := rest })
    | _ => .fault (.halted f)

/-- The step is over: the next one has a number of its own (log 7). -/
def countStep (s : State) : State := { s with tick := s.tick + 1 }

/-- The command word stands on the port, and the block is ready to take it. -/
def presentCmd (c : CmdWord) (s : State) : State :=
  { s with env := .issue c :: s.env, cur := .none, fault := none }

end Sys2Proof.Machine
end

