-- ==== Sys2Proof/Machine/Step.lean ====
section
/-! DEFINITION. One step of the whole system (`00_scope.md` R12), and how a command is placed on the port. -/

namespace Sys2Proof.Machine

/-- One step of one agent (R12). -/
def step (s : State) : Host.Outcome State Fault Refusal := onNext countStep (nextMove s)

/-- `s` with the opcode-table word on the command port, so that the next step is its `Issue` step (log 3). -/
def State.withFetchWord (s : State) (nbits w : Nat) : State := presentCmd (tableCmdWord nbits w) s

end Sys2Proof.Machine
end

