-- ==== Sys2Proof/Safety.lean ====
section
/-! DEFINITION. What claims are stated in: the end of a run and the stuck states (`00_scope.md` R14), the invariant of
every run (`10_state.md` R21), the full-duplex accounting (`45_fifo_shifter.md` R214) and what a loopback peer must have
echoed (`95_test_vectors.md` E7). -/

namespace Sys2Proof.Machine

/-- `n` micro-steps of the Sequencer with no other agent's step between them, stopping at the first that is not a next
state (`30_encoding.md` R111, a bare SERVICE). -/
def microSteps : Nat → State → Result
  | 0, s => .next s
  | n + 1, s =>
    match microStep s with
    | .next t => microSteps n t
    | .fault r => .fault r
    | .refused r => .refused r

/-- `s` after one record on the response port and nothing else: the form claims write a response in. -/
def answered (st : Status) (data : Word) (s : State) : State :=
  { s with ports := { s.ports with responses := s.ports.responses ++ [{ status := st, data := data }] } }

/-- The operations accepted before INIT (R43, R253). -/
def beforeInit : Instr → Bool
  | .init => true
  | .setclient _ => true
  | .isbusy => true
  | .gpioinit => true
  | _ => false

/-- The control operations of `40_control_ops.md` and GPIOINIT: they finish in their `Issue` step and move no byte. -/
def isControl : Instr → Bool
  | .wrbyte _ => false
  | .rdbyte => false
  | .rwbyte _ => false
  | .submit _ _ _ => false
  | .service => false
  | _ => true

/-- `tx_len = min(requested_len, wlen)` as a number (R172). -/
def txLenNat (n : Word) (w : Handle) : Nat := min n.toNat w.len.toNat

/-- `io_len` as a number (R172). -/
def ioLenNat (n : Word) (w : Handle) (r : Option Handle) : Nat :=
  match r with
  | none => txLenNat n w
  | some h => min (txLenNat n w) h.len.toNat

/-- R171 read as arithmetic: no handle wraps, and the two ranges do not intersect. -/
def legalHandles (w : Handle) (r : Option Handle) : Prop :=
  w.base.toNat + w.len.toNat ≤ 2 ^ 32 ∧
    ∀ h, r = some h → h.base.toNat + h.len.toNat ≤ 2 ^ 32 ∧
      (w.len = 0 ∨ h.len = 0 ∨ w.base.toNat + w.len.toNat ≤ h.base.toNat ∨
        h.base.toNat + h.len.toNat ≤ w.base.toNat)

/-- The chip-select release of `csmode <- AUTO` (R211 (c)), as the line and the wire trace after it. -/
def releasedLine (s : State) : Bool × List WireEvent :=
  if s.link.csActive = true ∧ s.link.sr = none then (false, s.ports.wire ++ [.csDeassert s.regs.csid])
  else (s.link.csActive, s.ports.wire)

/-- The next move is reset. -/
def resetNext (s : State) : Prop := ∃ rest, s.env = .rst :: rest

/-- The next step is the `Issue` step of the command `i` (R12 (a)). -/
def issuesNext (i : Instr) (s : State) : Prop :=
  s.fault = none ∧ s.cur = .none ∧ ∃ c rest, s.env = .issue c :: rest ∧ decode c = .ok i

/-- A command presented on the port. -/
def isIssue : Move → Bool
  | .issue _ => true
  | _ => false

/-- The responses still to come (R105): one for each command to be presented, one for the operation in progress. -/
def responsesOwed (s : State) : Nat := s.env.countP isIssue + (if s.cur = .none then 0 else 1)

/-- The run of the program `start` presents is over (R14): every command issued and answered, no operation in progress, no Shifter
step enabled, `irq` = 0, no hard fault, and not the stuck state of R258. A command that a hard fault or a reset left without its
response (R226, R250) is not answered, and the run is not over. -/
def State.Final (start s : State) : Prop :=
  s.env = [] ∧ s.ports.responses.length = start.ports.responses.length + responsesOwed start ∧
    s.cur = .none ∧ s1Enabled s = false ∧ s2Enabled s = false ∧ irq s = false ∧
    s.fault = none ∧ s.xfer.busy = false

/-- The stuck state (R14, R258): busy, nothing enabled, nothing asked of the Dispatcher. -/
def State.Stuck (s : State) : Prop :=
  s.cur = .none ∧ s.fault = none ∧ s.xfer.busy = true ∧ irq s = false ∧
    s1Enabled s = false ∧ s2Enabled s = false

/-- No command was answered ILLEGAL (R223). -/
def State.NoIllegal (s : State) : Prop := ∀ r ∈ s.ports.responses, r.status ≠ .illegal

/-- A state that a claim about the program of `start` may be made of: its run is over, and it drew no ILLEGAL. "A model treats
`ILLEGAL` as a *refusal*" (R223): a program that drew one is given no end (log 1). -/
def State.Claimable (start s : State) : Prop := State.Final start s ∧ State.NoIllegal s

/-- The next step is the `Issue` step of a command that is answered ILLEGAL: a word no command has, or an operation that gives that
answer (R108). -/
def drawsIllegal (s : State) : Prop :=
  s.fault = none ∧ s.cur = .none ∧ ∃ c rest, s.env = .issue c :: rest ∧
    ∀ i, decode c = .ok i →
      exec i { s with env := rest } = .next (answered .illegal 0 { s with env := rest })

/-- The handle holds the whole transfer: it is well-formed (R71) and not shorter than `io_len` (R172). -/
def cellHolds (cell : Option Handle) (io : Word) : Prop :=
  ∀ h, cell = some h → handleWf h = true ∧ io.toNat ≤ h.len.toNat

/-- What `cur` says of the rest of the state (R39). -/
def curAgrees (s : State) : Prop :=
  match s.cur with
  | .sTxl i before stop =>
    s.xfer.txOffset = before ∧ before.toNat ≤ i.toNat ∧ i.toNat ≤ stop.toNat ∧
      before.toNat < stop.toNat ∧ stop.toNat ≤ before.toNat + Config.burst ∧
      stop.toNat ≤ s.xfer.ioLen.toNat ∧
      s.link.txf.length ≤ i.toNat - before.toNat
  | .bWait _ => s.xfer.busy = false
  | _ => True

/-- The invariant of every run from reset, whatever the moves of the agents: no host duty of R255 is assumed. -/
structure Inv (s : State) : Prop where
  /-- BUF keeps its canonical form. -/
  mem : Memory.wf s.mem = true
  /-- No FIFO holds more than `C` bytes (R35). -/
  txRoom : s.link.txf.length ≤ Config.fifoCapacity
  rxRoom : s.link.rxf.length ≤ Config.fifoCapacity
  /-- I-1 of R21. -/
  rxLeTx : s.xfer.rxOffset.toNat ≤ s.xfer.txOffset.toNat
  txLeIo : s.xfer.txOffset.toNat ≤ s.xfer.ioLen.toNat
  /-- Idle is the initial state of the Transfer State (I-3 of R21, R22). -/
  idle : s.xfer.busy = false →
    s.xfer.txc = none ∧ s.xfer.rxc = none ∧ s.xfer.ioLen = 0 ∧ s.regs.ieRx = false
  /-- I-5 of R21: a busy block owns its transmit buffer. -/
  owner : s.fault = none → s.xfer.busy = true → s.xfer.txc.isSome = true
  /-- Every access of the transfer stays inside its handle (R183, R186). -/
  txHolds : cellHolds s.xfer.txc s.xfer.ioLen
  rxHolds : cellHolds s.xfer.rxc s.xfer.ioLen
  /-- The two buffers are disjoint (R77). -/
  disjoint : ∀ w r, s.xfer.txc = some w → s.xfer.rxc = some r → handlesOverlap w r = false
  /-- The transmit source is armed only while bytes remain to be sent (R185). -/
  armed : s.regs.ieTx = true → s.xfer.txOffset.toNat < s.xfer.ioLen.toNat
  /-- Before INIT nothing has run (R43, R253). -/
  uninit : s.inited = false →
    s.xfer.busy = false ∧ s.cur = .none ∧ s.link.txf = [] ∧ s.link.rxf = [] ∧ s.link.sr = none ∧
      s.link.csActive = false ∧ s.fault = none
  /-- R39. -/
  cur : curAgrees s
  /-- One default level per chip-select line (R28). -/
  lines : s.regs.csdef.length = s.params.ncs
  /-- No other frame format is reachable (R29). -/
  format : s.inited = true → s.regs.fmt = initFormat

/-- Frames and bytes between the two data ports: TXF, the frame in flight, RXF. -/
def outstanding (s : State) : Nat :=
  s.link.rxf.length + (if s.link.sr.isSome then 1 else 0) + s.link.txf.length

/-- Bytes the refill loop has pushed but not yet counted in `tx_offset` (R186, R214). -/
def loopPushed (s : State) : Nat :=
  match s.cur with
  | .sTxl i before _ => i.toNat - before.toNat
  | _ => 0

/-- The byte a waiting byte operation has sent (R163). -/
def waitPushed (s : State) : Nat :=
  match s.cur with
  | .bWait _ => 1
  | _ => 0

/-- The full-duplex accounting of R214, for a run that began with clean FIFOs: outside the hard fault state
`rx_offset + |RXF| + |sr| + |TXF|` is `tx_offset`, a transmit loop's pushed bytes and a waiting byte operation's byte
counted in. -/
def Balanced (s : State) : Prop :=
  s.fault = none →
    s.xfer.rxOffset.toNat + outstanding s = s.xfer.txOffset.toNat + loopPushed s + waitPushed s

/-- The threshold of the burst in flight (R174, R186): the receive source is armed, and `rxmark + 1` is the number of bytes not yet
drained. -/
def burstMarked (s : State) : Prop :=
  s.regs.ieRx = true ∧ s.xfer.rxOffset.toNat + s.regs.rxmark.toNat + 1 = s.xfer.txOffset.toNat

/-- The pace of the safe schedule (R190): where a transfer stands when every pass was issued with the receive flag set. -/
def Paced (s : State) : Prop :=
  s.fault = none → s.xfer.busy = true →
    match s.cur with
    | .none => burstMarked s
    | .sRxt => burstMarked s ∧ ipRx s = true
    | .sRxl => s.link.txf = [] ∧ s.link.sr = none
    | .sTxt => s.xfer.rxOffset = s.xfer.txOffset ∧ (s.xfer.txOffset ≠ s.xfer.ioLen → s.regs.ieTx = true)
    | .sTxl _ before _ => s.xfer.rxOffset = before
    | .sFin => (s.xfer.txOffset = s.xfer.ioLen ∧ s.xfer.rxOffset = s.xfer.ioLen) ∨ burstMarked s
    | .bWait _ => True

/-- INIT is taken while a transfer is in flight: the hazard of R258, against the duty H-5. -/
def initWhileBusy (s : State) : Prop := s.xfer.busy = true ∧ issuesNext .init s

/-- With a loopback peer, the bytes on their way back and the bytes stored are the bytes of the write buffer in order
(R73, R206, R213): what waits in RXF, `sr` and TXF are the write buffer's bytes from `rx_offset` on, and the first
`rx_offset` bytes of the read buffer are those of the write buffer. -/
def Echoing (s : State) : Prop :=
  s.params.loopback = true → s.fault = none →
    ∀ w, s.xfer.txc = some w →
      s.link.rxf ++ s.link.sr.toList ++ s.link.txf =
          memBytes s.mem (w.base.toNat + s.xfer.rxOffset.toNat) (outstanding s) ∧
        ∀ r, s.xfer.rxc = some r → ∀ i, i < s.xfer.rxOffset.toNat →
          memRead s.mem (r.base.toNat + i) = memRead s.mem (w.base.toNat + i)

end Sys2Proof.Machine
end

