-- ==== Sys2Proof/Certificates/Slice0/Obligations.lean ====
section
/-! DEFINITION. The statements about SPIFSM, for the provers. Each docstring names the rule of spec/ it formalises. -/

open Sys2Proof Sys2Proof.Machine

/-! ## Encoding (`30_encoding.md`) -/

/-- Words written out from R101 to R104 decode as the operations they stand for (vectors V-E1 to V-E17). -/
def Obligations.WrittenOutWordsDecode : Prop :=
  decode (packCmd ⟨0x00000000, 0, 0, 0, 0, 0⟩) = .ok .init ∧
  decode (packCmd ⟨0x00000001, 0x00000001, 0, 0, 0, 0⟩) = .ok (.setclient 1) ∧
  decode (packCmd ⟨0x00000004, 0x000F4240, 0, 0, 0, 0⟩) = .ok (.setrate 1000000) ∧
  decode (packCmd ⟨0x0000000C, 0x0000005A, 0, 0, 0, 0⟩) = .ok (.wrbyte 0x5A) ∧
  decode (packCmd ⟨0x00000110, 0x0000000A, 0x00000100, 0x0000000A, 0x00000200, 0x0000000A⟩) =
    .ok (.submit 10 ⟨0x100, 10⟩ (some ⟨0x200, 10⟩)) ∧
  decode (packCmd ⟨0x00000010, 0x00000003, 0x00000100, 0x00000003, 0xDEADBEEF, 0xFFFFFFFF⟩) =
    .ok (.submit 3 ⟨0x100, 3⟩ none) ∧
  decode (packCmd ⟨0x00000020, 0, 0, 0, 0, 0⟩) = .ok .service ∧
  decode (packCmd ⟨0x00000030, 0, 0, 0, 0, 0⟩) = .ok .gpioinit ∧
  decode (packCmd ⟨0x0000000F, 0, 0, 0, 0, 0⟩) = .illegal .unknownOpcode ∧
  decode (packCmd ⟨0x00000200, 0, 0, 0, 0, 0⟩) = .illegal .reservedHeader ∧
  decode (packCmd ⟨0x00000100, 0, 0, 0, 0, 0⟩) = .illegal .rxpWithoutSubmit ∧
  decode (packCmd ⟨0x00000006, 0x00000002, 0, 0, 0, 0⟩) = .illegal .operandBits

/-- Decoding an encoded command gives it back, for every operation and every operand (R101 to R104). -/
def Obligations.DecodeOfEncodeIsTheCommand : Prop := ∀ i : Instr, decode (encode i) = .ok i

/-- A command word is illegal as a word iff one of the tests (1) to (4) of R108 holds of its bits. -/
def Obligations.WordIllegalIffATestHolds : Prop :=
  ∀ c : CmdWord,
    (∃ why, decode c = .illegal why) ↔
      (c.extractLsb' 9 23 ≠ 0 ∨
        c.extractLsb' 0 8 ∉ ([0x00, 0x01, 0x02, 0x03, 0x04, 0x05, 0x06, 0x07, 0x08, 0x09, 0x0A, 0x0B,
          0x0C, 0x0D, 0x0E, 0x10, 0x20, 0x30] : List (BitVec 8)) ∨
        (c.getLsbD 8 = true ∧ c.extractLsb' 0 8 ≠ 0x10) ∨
        ((c.extractLsb' 0 8 = 0x06 ∨ c.extractLsb' 0 8 = 0x08) ∧ c.extractLsb' 33 31 ≠ 0) ∨
        ((c.extractLsb' 0 8 = 0x0C ∨ c.extractLsb' 0 8 = 0x0E) ∧ c.extractLsb' 40 24 ≠ 0))

/-- The 18 rows of the opcode table, with the numbers of R104; a row matches a header word iff its opcode is in the low byte and
the bits above are 0, bit 8 being free for SUBMIT alone; and the decoder reads a row's operation from exactly the headers the row
matches. -/
def Obligations.TableRowMatchesItsHeadersOnly : Prop :=
  (∀ row ∈ ([(.init, 0x00), (.setclient, 0x01), (.isbusy, 0x02), (.setcs, 0x03), (.setrate, 0x04), (.getrate, 0x05),
      (.setpol, 0x06), (.getpol, 0x07), (.setpha, 0x08), (.getpha, 0x09), (.holdlow, 0x0A), (.rellow, 0x0B),
      (.wrbyte, 0x0C), (.rdbyte, 0x0D), (.rwbyte, 0x0E), (.submit, 0x10), (.service, 0x20), (.gpioinit, 0x30)] :
      List (Op × BitVec 8)),
    opCode row.1 = row.2 ∧ opMatch row.1 = row.2.setWidth 32 ∧
      opMask row.1 = if row.1 = .submit then 0xFFFFFEFF else 0xFFFFFFFF) ∧
  (∀ (o : Op) (w0 : Word),
    w0 &&& opMask o = opMatch o ↔
      (headerReserved w0 = 0 ∧ headerOp w0 = opCode o ∧ (headerRxp w0 = true → o = .submit))) ∧
  (∀ (c : Cmd) (i : Instr), decodeCmd c = .ok i →
    ∀ o, c.w0 &&& opMask o = opMatch o ↔ o = opOf i)

/-- A word an operation does not use is ignored and may hold anything (R103, R109). -/
def Obligations.UnusedOperandWordsAreIgnored : Prop :=
  (∀ (c : Cmd) (x1 x2 x3 x4 : Word), headerOp c.w0 ≠ 0x10 →
    decodeCmd { c with a1 := x1, a2 := x2, a3 := x3, a4 := x4 } = decodeCmd c) ∧
  (∀ (c : Cmd) (x0 : Word),
    headerOp c.w0 ∈ ([0x00, 0x02, 0x05, 0x07, 0x09, 0x0A, 0x0B, 0x0D, 0x20, 0x30] : List (BitVec 8)) →
      decodeCmd { c with a0 := x0 } = decodeCmd c) ∧
  (∀ (c : Cmd) (x3 x4 : Word), headerRxp c.w0 = false →
    decodeCmd { c with a3 := x3, a4 := x4 } = decodeCmd c)

/-! ## Steps (`00_scope.md` R12, R13) -/

/-- With the port ready, a step takes the command presented: the meaning of the decoded command, or ILLEGAL for a word no
command has (R12 (a), R100, R108). The move is consumed and the step counted, which are the model's own (log 2, log 7). -/
def Obligations.StepTakesTheCommandOnThePort : Prop :=
  ∀ (s : State) (c : CmdWord) (rest : List Move),
    s.fault = none → s.cur = .none → s.env = .issue c :: rest →
      (∀ i, decode c = .ok i →
        step s = onNext (fun t => { t with tick := t.tick + 1 }) (exec i { s with env := rest })) ∧
      (∀ why, decode c = .illegal why →
        step s = .next (answered .illegal 0 { s with env := rest, tick := s.tick + 1 }))

/-- An opcode-table word placed on the port is run by the very next step (log 3). -/
def Obligations.PlacedTableWordIsRunNext : Prop :=
  ∀ (s : State) (nbits w : Nat) (i : Instr), decodeTableWord nbits w = some i →
    step (s.withFetchWord nbits w) =
      onNext (fun t => { t with tick := t.tick + 1 }) (exec i { s with cur := .none, fault := none })

/-- A command presented while an operation is in progress is held: it stays on the port, and the step is the Sequencer's
(R13; that the Sequencer is the one to go on is the model's, log 2). Every command taken is answered by exactly one response: a
step that is not reset and raises no hard fault keeps the responses given and those still owed, taken together (R105). -/
def Obligations.CommandWaitsForTheOperation : Prop :=
  (∀ (s : State) (c : CmdWord) (rest : List Move),
    s.fault = none → s.cur ≠ .none → s.env = .issue c :: rest →
      step s = onNext (fun t => { t with tick := t.tick + 1 }) (microStep s) ∧
        ∀ t, step s = .next t → t.env = .issue c :: rest) ∧
  (∀ s t : State, step s = .next t → ¬ resetNext s → t.fault = none →
    t.ports.responses.length + responsesOwed t = s.ports.responses.length + responsesOwed s)

/-! ## Error returns (`60_exceptions.md` R220 to R224) -/

/-- Before INIT only INIT, SETCLIENT, ISBUSY and GPIOINIT are accepted; every other operation is answered ILLEGAL and
changes nothing (R253); `irq` is the free value of log 6 (R45). -/
def Obligations.BeforeInitOnlyFourOperationsRun : Prop :=
  ∀ s : State, s.inited = false →
    (∀ i, beforeInit i = false → exec i s = .next (answered .illegal 0 s)) ∧
    (∀ i, beforeInit i = true → (∀ id, i = .setclient id → s.client = none) →
      ∃ t d, exec i s = .next t ∧ t.ports.responses = s.ports.responses ++ [⟨.ok, d⟩]) ∧
    irq s = Config.drawIrq s.tick

/-- BUSY is answered, with no change of state, by exactly SETRATE, SETPOL, SETPHA, the byte operations and SUBMIT, when
`busy` = 1 and no test of higher priority fails (R221, R224). -/
def Obligations.BusyAnsweredByExactlySeven : Prop :=
  ∀ (i : Instr) (s : State),
    exec i s = .next (answered .busy 0 s) ↔
      (s.xfer.busy = true ∧ s.inited = true ∧
        ((∃ hz, i = .setrate hz ∧ 1954 ≤ hz.toNat ∧ hz.toNat ≤ 8000000) ∨
          (∃ l, i = .setpol l) ∨ (∃ e, i = .setpha e) ∨
          (∃ v, i = .wrbyte v) ∨ i = .rdbyte ∨ (∃ v, i = .rwbyte v) ∨
          (∃ n w r, i = .submit n w r ∧ legalHandles w r ∧ 0 < txLenNat n w)))

/-- INVAL is answered, with no change of state, by exactly SETRATE out of range and SUBMIT with
`min(requested_len, wlen) = 0` (R222), busy or not (R224). -/
def Obligations.InvalAnsweredByExactlyTwo : Prop :=
  ∀ (i : Instr) (s : State),
    exec i s = .next (answered .inval 0 s) ↔
      (s.inited = true ∧
        ((∃ hz, i = .setrate hz ∧ (hz.toNat < 1954 ∨ 8000000 < hz.toNat)) ∨
          (∃ n w r, i = .submit n w r ∧ legalHandles w r ∧ txLenNat n w = 0)))

/-- A decoded command is answered ILLEGAL, with no change of state, iff it is not accepted before INIT and INIT has not run,
or it is a second SETCLIENT, or a SUBMIT with ill-formed or overlapping handles (R108 (5), (6)). A step records an ILLEGAL iff it
draws one, and no run that drew one comes to a state a claim about its program can be made of (R223, log 1). The numbers of the
four status codes are those of R106. -/
def Obligations.IllegalAnsweredByExactlyThese : Prop :=
  (∀ (i : Instr) (s : State),
    exec i s = .next (answered .illegal 0 s) ↔
      ((s.inited = false ∧ beforeInit i = false) ∨
        (∃ id, i = .setclient id ∧ s.client ≠ none) ∨
        (∃ n w r, i = .submit n w r ∧ ¬ legalHandles w r))) ∧
  (∀ s t : State, step s = .next t → (State.NoIllegal t ↔ State.NoIllegal s ∧ ¬ drawsIllegal s)) ∧
  (∀ start s t : State, step s = .next t → (drawsIllegal s ∨ ¬ State.NoIllegal s) → ¬ State.Claimable start t) ∧
  (statusCode .ok = 0 ∧ statusCode .busy = 1 ∧ statusCode .inval = 2 ∧ statusCode .illegal = 3)

/-- An error return changes no state whatever; the status code is the whole record (R220). -/
def Obligations.ErrorReturnChangesNothing : Prop :=
  ∀ (i : Instr) (s t : State) (st : Status) (d : Word),
    exec i s = .next t → t.ports.responses = s.ports.responses ++ [⟨st, d⟩] → st ≠ .ok →
      t = answered st d s ∧ d = 0

/-! ## Control operations (`40_control_ops.md`) -/

/-- INIT (R130): its header word, every field it writes, everything else as it was; under an asserted line `cs_active` is a
draw and a released line is one wire event with the old id (R211 (e)). -/
def Obligations.InitWritesItsFields : Prop :=
  (∀ c : Cmd, c.w0 = 0x00000000 → decodeCmd c = .ok .init) ∧
  ∀ s : State, ∃ (act : Bool) (wire : List WireEvent),
    exec .init s = .next (answered .ok 0
      { s with
        xfer := { s.xfer with ioLen := 0, txOffset := 0, rxOffset := 0 }
        regs := { s.regs with
          pol := 0, pha := 0
          fmt := { proto := .single, endian := .msb, dir := .rx, len := 8 }
          ieTx := false, ieRx := false
          csdef := List.replicate s.params.ncs true, csid := 0, csmode := .hold }
        link := { s.link with csActive := act }
        ports := { s.ports with wire := wire }
        inited := true }) ∧
    ((act = s.link.csActive ∧ wire = s.ports.wire) ∨
      (s.link.csActive = true ∧ act = false ∧ wire = s.ports.wire ++ [.csDeassert s.regs.csid]))

/-- SETCLIENT, its header word and operand; it stores the client once; a second call is ILLEGAL and leaves the client
(R131). -/
def Obligations.SetclientStoresTheClientOnce : Prop :=
  (∀ c : Cmd, c.w0 = 0x00000001 → decodeCmd c = .ok (.setclient c.a0)) ∧
  ∀ (id : Word) (s : State),
    (s.client = none → exec (.setclient id) s = .next (answered .ok 0 { s with client := some id })) ∧
    (s.client ≠ none → exec (.setclient id) s = .next (answered .illegal 0 s))

/-- ISBUSY, its header word; it answers `zext_32(busy)` in every state, before INIT too (R132). -/
def Obligations.IsbusyReportsTheBusyFlag : Prop :=
  (∀ c : Cmd, c.w0 = 0x00000002 → decodeCmd c = .ok .isbusy) ∧
  ∀ s : State, exec .isbusy s = .next (answered .ok (if s.xfer.busy = true then 1 else 0) s)

/-- SETCS, its header word and operand; it stores the 32-bit id, busy or not, any id; under an asserted line `cs_active` is a
draw and a released line is a wire event with the old id (R133, R211 (e)). -/
def Obligations.SetcsStoresTheIdUnchecked : Prop :=
  (∀ c : Cmd, c.w0 = 0x00000003 → decodeCmd c = .ok (.setcs c.a0)) ∧
  ∀ (id : Word) (s : State),
    (s.inited = true → s.link.csActive = false →
      exec (.setcs id) s = .next (answered .ok 0 { s with regs := { s.regs with csid := id } })) ∧
    (s.inited = true → s.link.csActive = true →
      ∃ act : Bool, exec (.setcs id) s = .next (answered .ok 0
        { s with
          regs := { s.regs with csid := id }
          link := { s.link with csActive := act }
          ports := { s.ports with
            wire := if act = true then s.ports.wire else s.ports.wire ++ [.csDeassert s.regs.csid] } })) ∧
    (s.inited = false → exec (.setcs id) s = .next (answered .illegal 0 s))

/-- SETRATE (R134): its header word and operand; INVAL out of [1954, 8 000 000], then BUSY, else `div = 8 000 000 / hz - 1`,
which fits the field, and the answer is the requested rate. `divSet` is the model's own field: the statement does not say what
it becomes. -/
def Obligations.SetrateProgramsTheDivisor : Prop :=
  (∀ c : Cmd, c.w0 = 0x00000004 → decodeCmd c = .ok (.setrate c.a0)) ∧
  ∀ (hz : Word) (s : State), s.inited = true →
    (hz.toNat < 1954 ∨ 8000000 < hz.toNat → exec (.setrate hz) s = .next (answered .inval 0 s)) ∧
    (1954 ≤ hz.toNat → hz.toNat ≤ 8000000 →
      (s.xfer.busy = true → exec (.setrate hz) s = .next (answered .busy 0 s)) ∧
      (s.xfer.busy = false → ∃ (d : BitVec 12) (known : Bool),
        d.toNat = 8000000 / hz.toNat - 1 ∧ d.toNat ≤ 4093 ∧
          exec (.setrate hz) s =
            .next (answered .ok hz { s with regs := { s.regs with div := d, divSet := known } })))

/-- GETRATE, its header word; it answers `8 000 000 / (div + 1)`, a value from 1953 to 8 000 000 (R135); before the first SETRATE since reset
from a drawn divisor that stays the same until SETRATE (R45). -/
def Obligations.GetrateRecoversTheRate : Prop :=
  (∀ c : Cmd, c.w0 = 0x00000005 → decodeCmd c = .ok .getrate) ∧
  ∀ s : State, s.inited = true →
    ∃ g : Word,
      exec .getrate s = .next (answered .ok g s) ∧
      g.toNat = 8000000 / ((if s.regs.divSet = true then s.regs.div else Config.freeDiv s.epoch).toNat + 1) ∧
      1953 ≤ g.toNat ∧ g.toNat ≤ 8000000

/-- The achieved rate is never below the requested one, and equal exactly when flooring twice gives the request back
(R134 (c), R135 (c), R264). -/
def Obligations.AchievedRateIsNotBelowTheRequest : Prop :=
  ∀ (hz : Word) (s t : State),
    exec (.setrate hz) s = .next t → t.ports.responses = s.ports.responses ++ [⟨.ok, hz⟩] →
      ∃ g : Word, exec .getrate t = .next (answered .ok g t) ∧ hz.toNat ≤ g.toNat ∧
        (g = hz ↔ 8000000 / (8000000 / hz.toNat) = hz.toNat)

/-- SETPOL, GETPOL, SETPHA, GETPHA (R136 to R139): their header words, an operand with a bit above bit 0 is illegal; setters
fail with BUSY while a transfer is active; getters have no busy check. -/
def Obligations.PolarityAndPhaseAreSetAndRead : Prop :=
  (∀ c : Cmd, c.a0.toNat < 2 →
    (c.w0 = 0x00000006 → decodeCmd c = .ok (.setpol (c.a0.extractLsb' 0 1))) ∧
    (c.w0 = 0x00000008 → decodeCmd c = .ok (.setpha (c.a0.extractLsb' 0 1)))) ∧
  (∀ c : Cmd, 2 ≤ c.a0.toNat → c.w0 = 0x00000006 ∨ c.w0 = 0x00000008 → decodeCmd c = .illegal .operandBits) ∧
  (∀ c : Cmd, (c.w0 = 0x00000007 → decodeCmd c = .ok .getpol) ∧ (c.w0 = 0x00000009 → decodeCmd c = .ok .getpha)) ∧
  ∀ (b : BitVec 1) (s : State), s.inited = true →
    (s.xfer.busy = false →
      exec (.setpol b) s = .next (answered .ok 0 { s with regs := { s.regs with pol := b } }) ∧
      exec (.setpha b) s = .next (answered .ok 0 { s with regs := { s.regs with pha := b } })) ∧
    (s.xfer.busy = true →
      exec (.setpol b) s = .next (answered .busy 0 s) ∧ exec (.setpha b) s = .next (answered .busy 0 s)) ∧
    exec .getpol s = .next (answered .ok (s.regs.pol.setWidth 32) s) ∧
    exec .getpha s = .next (answered .ok (s.regs.pha.setWidth 32) s)

/-- HOLDLOW and RELLOW, their header words; HOLDLOW sets HOLD and leaves the line; RELLOW sets AUTO and releases an asserted
line at once iff no frame is in flight (R140, R141, R211 (c), (d)). -/
def Obligations.HoldlowAndRellowSetTheFraming : Prop :=
  (∀ c : Cmd, (c.w0 = 0x0000000A → decodeCmd c = .ok .holdlow) ∧ (c.w0 = 0x0000000B → decodeCmd c = .ok .rellow)) ∧
  ∀ s : State, s.inited = true →
    exec .holdlow s = .next (answered .ok 0 { s with regs := { s.regs with csmode := .hold } }) ∧
    exec .rellow s = .next (answered .ok 0
      { s with
        regs := { s.regs with csmode := .auto }
        link := { s.link with csActive := (releasedLine s).1 }
        ports := { s.ports with wire := (releasedLine s).2 } })

/-- What the twelve control operations and GPIOINIT leave unchanged: every byte of memory, the FIFOs and the frame in flight,
`cur`, `fault`, the completions, `busy` and the cells, and every field but those R130 to R141 and R200 name. -/
def Obligations.ControlOperationFrames : Prop :=
  ∀ (i : Instr) (s t : State), isControl i = true → exec i s = .next t →
    (∀ a, memRead t.mem a = memRead s.mem a) ∧
    t.link.txf = s.link.txf ∧ t.link.rxf = s.link.rxf ∧ t.link.sr = s.link.sr ∧
    t.cur = s.cur ∧ t.fault = s.fault ∧ t.ports.completions = s.ports.completions ∧
    t.params = s.params ∧ t.env = s.env ∧ t.tick = s.tick ∧ t.epoch = s.epoch ∧
    t.xfer.busy = s.xfer.busy ∧ t.xfer.txc = s.xfer.txc ∧ t.xfer.rxc = s.xfer.rxc ∧
    t.regs.rxmark = s.regs.rxmark ∧ t.regs.delay = s.regs.delay ∧ t.regs.fctrl = s.regs.fctrl ∧
    (i ≠ .init →
      t.xfer = s.xfer ∧ t.regs.ieTx = s.regs.ieTx ∧ t.regs.ieRx = s.regs.ieRx ∧ t.inited = s.inited ∧
        t.regs.csdef = s.regs.csdef ∧ t.regs.fmt = s.regs.fmt) ∧
    (i ≠ .init → (∀ id, i ≠ .setcs id) → t.regs.csid = s.regs.csid) ∧
    (i ≠ .init → (∀ l, i ≠ .setpol l) → t.regs.pol = s.regs.pol) ∧
    (i ≠ .init → (∀ e, i ≠ .setpha e) → t.regs.pha = s.regs.pha) ∧
    ((∀ hz, i ≠ .setrate hz) → t.regs.div = s.regs.div ∧ t.regs.divSet = s.regs.divSet) ∧
    (i ≠ .init → i ≠ .holdlow → i ≠ .rellow → t.regs.csmode = s.regs.csmode) ∧
    ((∀ id, i ≠ .setclient id) → t.client = s.client) ∧
    (i ≠ .gpioinit → t.pinfn = s.pinfn) ∧
    (i ≠ .init → (∀ id, i ≠ .setcs id) → i ≠ .rellow →
      t.link.csActive = s.link.csActive ∧ t.ports.wire = s.ports.wire)

/-- GPIOINIT, its header word; it sets the four pin bits in every state and changes nothing else (R200). -/
def Obligations.GpioinitSwitchesTheFourPins : Prop :=
  (∀ c : Cmd, c.w0 = 0x00000030 → decodeCmd c = .ok .gpioinit) ∧
  ∀ s : State, exec .gpioinit s = .next (answered .ok 0 { s with pinfn := 0b1111 })

/-! ## Byte operations (`41_byte_ops.md`) -/

/-- WRBYTE, RDBYTE and RWBYTE: their header words, an operand with a bit above bit 7 is illegal; the exchange of R163 with the
byte and the answer of each kind (R160, R161, R162): the `Issue` step pushes one byte and waits, or answers BUSY, or faults on a
full TXF; the micro-step is held while RXF is empty and else pops its head and answers. That a held micro-step, when it is the
next move, is a step that answers the same state is the model's choice (log 2): the spec says that it is not enabled. -/
def Obligations.ByteExchangePushesWaitsAndPops : Prop :=
  (∀ c : Cmd, c.a0.toNat < 256 →
    (c.w0 = 0x0000000C → decodeCmd c = .ok (.wrbyte (c.a0.extractLsb' 0 8))) ∧
    (c.w0 = 0x0000000E → decodeCmd c = .ok (.rwbyte (c.a0.extractLsb' 0 8)))) ∧
  (∀ c : Cmd, 256 ≤ c.a0.toNat → c.w0 = 0x0000000C ∨ c.w0 = 0x0000000E → decodeCmd c = .illegal .operandBits) ∧
  (∀ c : Cmd, c.w0 = 0x0000000D → decodeCmd c = .ok .rdbyte) ∧
  ∀ (v : Byte) (s : State) (i : Instr) (k : ByteKind) (sent : Byte),
    (i = .wrbyte v ∧ k = .wr ∧ sent = v) ∨ (i = .rdbyte ∧ k = .rd ∧ sent = 0) ∨
      (i = .rwbyte v ∧ k = .rw ∧ sent = v) →
    s.inited = true →
    (s.xfer.busy = true → exec i s = .next (answered .busy 0 s)) ∧
    (s.xfer.busy = false → s.link.txf.length ≠ 8 →
      exec i s = .next
        { s with link := { s.link with txf := s.link.txf ++ [sent] }, cur := .bWait k }) ∧
    (s.xfer.busy = false → s.link.txf.length = 8 → s.fault = none →
      exec i s = .next { s with fault := some .txOverflow }) ∧
    (s.cur = .bWait k → s.link.rxf = [] → microStep s = .next s) ∧
    (∀ r rest, s.cur = .bWait k → s.link.rxf = r :: rest →
      microStep s = .next
        (answered .ok (if k = .wr then 0 else r.setWidth 32)
          { s with link := { s.link with rxf := rest }, cur := .none }))

/-- In every state a run reaches, an idle initialised block has both enables 0, so a byte operation raises no `irq`: not
when it is taken and not while it waits (R164 (c)). -/
def Obligations.IdleBlockRaisesNoIrq : Prop :=
  ∀ s : State, Inv s → s.inited = true → s.xfer.busy = false →
    irq s = false ∧ s.regs.ieTx = false ∧ s.regs.ieRx = false ∧
      ∀ i t, (∃ v, i = .wrbyte v ∨ i = .rdbyte ∨ i = .rwbyte v) → exec i s = .next t → irq t = false

/-! ## Submission (`42_submit.md`) -/

/-- SUBMIT, its header words and operands; after INIT every branch of R170 in its order: ILLEGAL handles (R171), INVAL for a zero length, BUSY (R175), the
empty burst (R174), the full TXF (R173, the pushes made before it kept), and acceptance with the lengths of R172, the
priming of R173 and the arming of R174. -/
def Obligations.SubmitFollowsItsRules : Prop :=
  (∀ c : Cmd,
    (c.w0 = 0x00000010 → decodeCmd c = .ok (.submit c.a0 ⟨c.a1, c.a2⟩ none)) ∧
    (c.w0 = 0x00000110 → decodeCmd c = .ok (.submit c.a0 ⟨c.a1, c.a2⟩ (some ⟨c.a3, c.a4⟩)))) ∧
  ∀ (n : Word) (w : Handle) (r : Option Handle) (s : State), s.inited = true →
    (¬ legalHandles w r → exec (.submit n w r) s = .next (answered .illegal 0 s)) ∧
    (legalHandles w r → txLenNat n w = 0 → exec (.submit n w r) s = .next (answered .inval 0 s)) ∧
    (legalHandles w r → 0 < txLenNat n w → s.xfer.busy = true →
      exec (.submit n w r) s = .next (answered .busy 0 s)) ∧
    (legalHandles w r → 0 < txLenNat n w → s.xfer.busy = false → s.fault = none →
      (ioLenNat n w r = 0 →
        exec (.submit n w r) s = .next
          { s with
            xfer := { s.xfer with busy := true, ioLen := 0 }
            fault := some .watermarkUnderflow }) ∧
      (0 < ioLenNat n w r → s.link.txf.length ≤ 8 → 8 < s.link.txf.length + min 7 (ioLenNat n w r) →
        exec (.submit n w r) s = .next
          { s with
            xfer := { s.xfer with busy := true, ioLen := BitVec.ofNat 32 (ioLenNat n w r) }
            link := { s.link with
              txf := s.link.txf ++ memBytes s.mem w.base.toNat (8 - s.link.txf.length) }
            fault := some .txOverflow }) ∧
      (0 < ioLenNat n w r → s.link.txf.length + min 7 (ioLenNat n w r) ≤ 8 →
        exec (.submit n w r) s = .next (answered .ok 0
          { s with
            xfer :=
              { busy := true
                txc := some w
                rxc := if r = none then s.xfer.rxc else r
                ioLen := BitVec.ofNat 32 (ioLenNat n w r)
                txOffset := BitVec.ofNat 32 (min 7 (ioLenNat n w r))
                rxOffset := 0 }
            regs := { s.regs with
              rxmark := BitVec.ofNat 3 (min 7 (ioLenNat n w r) - 1)
              ieRx := true
              ieTx := if min 7 (ioLenNat n w r) < ioLenNat n w r then true else s.regs.ieTx }
            link := { s.link with
              txf := s.link.txf ++ memBytes s.mem w.base.toNat (min 7 (ioLenNat n w r)) } })))

/-- SUBMIT reads no byte of BUF but the first `min(7, io_len)` of the write buffer, and writes none: another memory that
agrees on those bytes gives the same outcome, the memory kept (R76, R85, R173). -/
def Obligations.SubmitReadsOnlyItsFirstBurst : Prop :=
  ∀ (n : Word) (w : Handle) (r : Option Handle) (s : State) (m : Memory),
    (∀ j, j < min 7 (ioLenNat n w r) →
      memRead m (w.base.toNat + j) = memRead s.mem (w.base.toNat + j)) →
    exec (.submit n w r) { s with mem := m } =
      onNext (fun t => { t with mem := m }) (exec (.submit n w r) s)

/-! ## The service pass (`43_service.md`) -/

/-- SERVICE, its header word; it writes `cur` and nothing else; before INIT it is ILLEGAL (R180, R238, R253). -/
def Obligations.ServiceStartsAPass : Prop :=
  (∀ c : Cmd, c.w0 = 0x00000020 → decodeCmd c = .ok .service) ∧
  ∀ s : State,
    (s.inited = true → exec .service s = .next { s with cur := .sRxt }) ∧
    (s.inited = false → exec .service s = .next (answered .illegal 0 s))

/-- The micro-step at `S_RXT` (R181, R33). -/
def Obligations.ReceiveTestBranchesOnThePendingFlag : Prop :=
  ∀ s : State, s.cur = .sRxt →
    (s.regs.ieRx = true ∧ s.regs.rxmark.toNat < s.link.rxf.length →
      microStep s = .next { s with cur := .sRxl }) ∧
    (¬ (s.regs.ieRx = true ∧ s.regs.rxmark.toNat < s.link.rxf.length) →
      microStep s = .next { s with cur := .sTxt })

/-- The micro-step at `S_RXL` (R182, R183, R184) in the states of a run: the end of the drain, the empty RXF, the pop with
or without a read buffer. A stored byte goes to `rxc.base + rx_offset`, inside the handle, and every other byte of BUF
stays. -/
def Obligations.DrainMicroStepPopsOneByte : Prop :=
  ∀ s : State, Inv s → s.fault = none → s.cur = .sRxl →
    (s.xfer.rxOffset = s.xfer.txOffset → s.xfer.txOffset = s.xfer.ioLen →
      microStep s = .next { s with cur := .sTxt }) ∧
    (s.xfer.rxOffset = s.xfer.txOffset → s.xfer.txOffset ≠ s.xfer.ioLen →
      microStep s = .next
        { s with regs := { s.regs with ieTx := true, ieRx := false }, cur := .sTxt }) ∧
    (s.xfer.rxOffset ≠ s.xfer.txOffset → s.link.rxf = [] →
      microStep s = .next { s with fault := some .rxFifoEmpty }) ∧
    (∀ v rest, s.xfer.rxOffset ≠ s.xfer.txOffset → s.link.rxf = v :: rest →
      ∃ m : Memory,
        microStep s = .next
          { s with
            link := { s.link with rxf := rest }
            xfer := { s.xfer with rxOffset := s.xfer.rxOffset + 1 }
            mem := m } ∧
        (s.xfer.rxc = none → m = s.mem) ∧
        (∀ h, s.xfer.rxc = some h →
          handleHas h (h.base.toNat + s.xfer.rxOffset.toNat) = true ∧
          memRead m (h.base.toNat + s.xfer.rxOffset.toNat) = v ∧
          ∀ a, a ≠ h.base.toNat + s.xfer.rxOffset.toNat → memRead m a = memRead s.mem a))

/-- The micro-step at `S_TXT` (R185, R33): with the flag set the refill loop runs from `tx_offset` to
`min(tx_offset + 7, io_len)`, an empty burst is a hard fault; else the completion check. -/
def Obligations.TransmitTestBranchesOnThePendingFlag : Prop :=
  ∀ s : State, s.fault = none → s.cur = .sTxt →
    (s.regs.ieTx = true ∧ s.link.txf = [] →
      (min (s.xfer.txOffset.toNat + 7) s.xfer.ioLen.toNat = s.xfer.txOffset.toNat →
        microStep s = .next { s with fault := some .watermarkUnderflow }) ∧
      (min (s.xfer.txOffset.toNat + 7) s.xfer.ioLen.toNat ≠ s.xfer.txOffset.toNat →
        microStep s = .next
          { s with
            cur := .sTxl s.xfer.txOffset s.xfer.txOffset
              (BitVec.ofNat 32 (min (s.xfer.txOffset.toNat + 7) s.xfer.ioLen.toNat)) })) ∧
    (¬ (s.regs.ieTx = true ∧ s.link.txf = []) → microStep s = .next { s with cur := .sFin })

/-- The micro-step at `S_TXL(i, before, end)` (R186): the full test, the missing buffer, the push of the byte at
`txc.base + i` of a write handle that holds it, and the loop exit with the new threshold. -/
def Obligations.RefillMicroStepPushesOneByte : Prop :=
  ∀ (s : State) (i before stop : Word), s.fault = none → s.cur = .sTxl i before stop →
    (i.toNat < stop.toNat → s.link.txf.length = 8 →
      microStep s = .next { s with fault := some .txFifoFull }) ∧
    (i.toNat < stop.toNat → s.link.txf.length ≠ 8 → s.xfer.txc = none →
      microStep s = .next { s with fault := some .noTxBuffer }) ∧
    (∀ h, i.toNat < stop.toNat → s.link.txf.length ≠ 8 → s.xfer.txc = some h →
      handleWf h = true → stop.toNat ≤ h.len.toNat →
      microStep s = .next
        { s with
          link := { s.link with txf := s.link.txf ++ [memRead s.mem (h.base.toNat + i.toNat)] }
          cur := .sTxl (i + 1) before stop }) ∧
    (i = stop → before.toNat < stop.toNat →
      microStep s = .next
        { s with
          xfer := { s.xfer with txOffset := stop }
          regs := { s.regs with
            rxmark := BitVec.ofNat 3 (stop.toNat - before.toNat - 1)
            ieTx := false
            ieRx := true }
          cur := .sFin })

/-- The micro-step at `S_FIN` (R187, R188): an incomplete transfer ends the pass; a complete one pulses the chip select,
disarms both sources, takes the cells, emits one record, zeroes the counters, clears `busy` and answers; a missing buffer
or client is a hard fault with the writes made before it kept. -/
def Obligations.CompletionCheckCompletesOnce : Prop :=
  ∀ s : State, s.fault = none → s.cur = .sFin →
    (¬ (s.xfer.txOffset = s.xfer.ioLen ∧ s.xfer.rxOffset = s.xfer.ioLen) →
      microStep s = .next (answered .ok 0 { s with cur := .none })) ∧
    (s.xfer.txOffset = s.xfer.ioLen → s.xfer.rxOffset = s.xfer.ioLen →
      let regs := { s.regs with csmode := .hold, ieTx := false, ieRx := false }
      let link := { s.link with csActive := (releasedLine s).1 }
      let wire := (releasedLine s).2
      (s.xfer.txc = none →
        microStep s = .next
          { s with
            regs := regs, link := link, ports := { s.ports with wire := wire }
            fault := some .noTxBuffer }) ∧
      (s.xfer.txc ≠ none → s.client = none →
        microStep s = .next
          { s with
            xfer := { s.xfer with txc := none, rxc := none }
            regs := regs, link := link, ports := { s.ports with wire := wire }
            fault := some .noClient }) ∧
      (∀ w id, s.xfer.txc = some w → s.client = some id →
        microStep s = .next (answered .ok 0
          { s with
            xfer :=
              { busy := false, txc := none, rxc := none, ioLen := 0, txOffset := 0, rxOffset := 0 }
            regs := regs, link := link
            ports :=
              { s.ports with
                wire := wire
                completions := s.ports.completions ++
                  [{ client := id, w := w, r := s.xfer.rxc, len := s.xfer.ioLen, status := .success }] }
            cur := .none })))

/-- A whole drain (R182, R183, R76): from `S_RXL` with at least `tx_offset - rx_offset` bytes in RXF, that many micro-steps
move exactly those bytes, in order, to the read buffer from `rx_offset` on, or drop them when there is none; no other byte
of BUF changes. -/
def Obligations.WholeDrainMovesTheOutstandingBytes : Prop :=
  ∀ s : State, Inv s → s.fault = none → s.cur = .sRxl →
    s.xfer.txOffset.toNat - s.xfer.rxOffset.toNat ≤ s.link.rxf.length →
    ∃ m : Memory,
      microSteps (s.xfer.txOffset.toNat - s.xfer.rxOffset.toNat) s = .next
        { s with
          xfer := { s.xfer with rxOffset := s.xfer.txOffset }
          link := { s.link with
            rxf := s.link.rxf.drop (s.xfer.txOffset.toNat - s.xfer.rxOffset.toNat) }
          mem := m } ∧
      (s.xfer.rxc = none → m = s.mem) ∧
      (∀ r, s.xfer.rxc = some r →
        memBytes m (r.base.toNat + s.xfer.rxOffset.toNat)
            (s.xfer.txOffset.toNat - s.xfer.rxOffset.toNat) =
          s.link.rxf.take (s.xfer.txOffset.toNat - s.xfer.rxOffset.toNat) ∧
        ∀ a, a < r.base.toNat + s.xfer.rxOffset.toNat ∨ r.base.toNat + s.xfer.txOffset.toNat ≤ a →
          memRead m a = memRead s.mem a)

/-- A whole refill (R186): from `S_TXL(i, before, end)` in a state of a run, `end - i + 1` micro-steps push the write
buffer's bytes `i` to `end - 1` in order, set `tx_offset`, the threshold and the enables, change nothing else, and never
meet a full TXF. -/
def Obligations.WholeRefillPushesTheBurst : Prop :=
  ∀ (s : State) (i before stop : Word) (w : Handle),
    Inv s → s.fault = none → s.cur = .sTxl i before stop → s.xfer.txc = some w →
    microSteps (stop.toNat - i.toNat + 1) s = .next
      { s with
        xfer := { s.xfer with txOffset := stop }
        regs := { s.regs with
          rxmark := BitVec.ofNat 3 (stop.toNat - before.toNat - 1)
          ieTx := false
          ieRx := true }
        link := { s.link with
          txf := s.link.txf ++ memBytes s.mem (w.base.toNat + i.toNat) (stop.toNat - i.toNat) }
        cur := .sFin }

/-- The safe schedule's pass that is not the last (R190 (2)): issued with the receive flag set, the whole burst echoed and
more to send, the pass drains the burst, pushes the next one, swaps the enables, sets the threshold, answers OK and completes
nothing. -/
def Obligations.SafePassDrainsABurstAndSendsTheNext : Prop :=
  ∀ (s : State) (w : Handle), Inv s → Balanced s → s.fault = none → s.cur = .sRxt → ipRx s = true →
    s.link.txf = [] → s.link.sr = none → s.xfer.txc = some w →
    s.xfer.txOffset.toNat < s.xfer.ioLen.toNat →
    ∃ t : State,
      microSteps
        (min (s.xfer.txOffset.toNat + 7) s.xfer.ioLen.toNat - s.xfer.rxOffset.toNat + 5) s = .next t ∧
      t.cur = .none ∧ t.fault = none ∧ t.xfer.busy = true ∧
      t.xfer.rxOffset = s.xfer.txOffset ∧
      t.xfer.txOffset.toNat = min (s.xfer.txOffset.toNat + 7) s.xfer.ioLen.toNat ∧
      t.xfer.ioLen = s.xfer.ioLen ∧ t.xfer.txc = s.xfer.txc ∧ t.xfer.rxc = s.xfer.rxc ∧
      t.link.rxf = [] ∧
      t.link.txf = memBytes s.mem (w.base.toNat + s.xfer.txOffset.toNat)
        (t.xfer.txOffset.toNat - s.xfer.txOffset.toNat) ∧
      t.regs.ieRx = true ∧ t.regs.ieTx = false ∧
      t.regs.rxmark.toNat = t.xfer.txOffset.toNat - s.xfer.txOffset.toNat - 1 ∧
      t.ports.responses = s.ports.responses ++ [⟨.ok, 0⟩] ∧
      t.ports.completions = s.ports.completions

/-- The safe schedule's last pass (R190 (3), R188): issued with the receive flag set, everything sent and echoed and a client
set, it drains the last burst, skips the transmit phase and completes: one record with `io_len`, the Transfer State back to
empty. -/
def Obligations.SafeLastPassCompletes : Prop :=
  ∀ (s : State) (w : Handle) (id : Word), Inv s → Balanced s → s.fault = none → s.cur = .sRxt →
    ipRx s = true → s.link.txf = [] → s.link.sr = none → s.xfer.txc = some w → s.client = some id →
    s.xfer.txOffset = s.xfer.ioLen →
    ∃ t : State,
      microSteps (s.xfer.txOffset.toNat - s.xfer.rxOffset.toNat + 4) s = .next t ∧
      t.cur = .none ∧ t.fault = none ∧ t.xfer = Transfer.reset ∧
      t.link.rxf = [] ∧ t.link.txf = [] ∧ t.link.sr = none ∧ t.link.csActive = false ∧
      t.regs.csmode = .hold ∧ t.regs.ieRx = false ∧ t.regs.ieTx = false ∧
      t.ports.responses = s.ports.responses ++ [⟨.ok, 0⟩] ∧
      t.ports.completions = s.ports.completions ++
        [{ client := id, w := w, r := s.xfer.rxc, len := s.xfer.ioLen, status := .success }]

/-- A spurious pass while idle ends in the hard fault `NoTxBuffer`, with no response and no record (R191 (a), R242). -/
def Obligations.SpuriousIdlePassFaults : Prop :=
  ∀ s : State, Inv s → s.inited = true → s.fault = none → s.xfer.busy = false → s.cur = .none →
    ∃ u t : State, exec .service s = .next u ∧ microSteps 3 u = .next t ∧
      t.fault = some .noTxBuffer ∧ t.ports.responses = s.ports.responses ∧
      t.ports.completions = s.ports.completions ∧ t.regs.csmode = .hold

/-! ## The Shifter (`45_fifo_shifter.md`) -/

/-- `S1`, enabled iff `sr` is empty and TXF is not (R209): the head of TXF goes into `sr`, and a released line is asserted
with its wire event. -/
def Obligations.FrameStartTakesTheHeadOfTxf : Prop :=
  (∀ s : State, s1Enabled s = true ↔ s.fault = none ∧ s.link.sr = none ∧ 0 < s.link.txf.length) ∧
  ∀ (s : State) (b : Byte) (q : List Byte) (rest : List Move),
    s.fault = none → s.env = .s1 :: rest → s.link.sr = none → s.link.txf = b :: q →
    step s = .next
      { s with
        link := { s.link with txf := q, sr := some b, csActive := true }
        ports := { s.ports with
          wire := if s.link.csActive = true then s.ports.wire
            else s.ports.wire ++ [.csAssert s.regs.csid] }
        env := rest
        tick := s.tick + 1 }

/-- `S2`, enabled iff `sr` holds a byte (R210, R213): a full RXF is the hard fault `RxOverrun`; else the peer's answer, an
echo when LOOPBACK, is appended to RXF, `sr` empties, the frame is a wire event, and in AUTO the line is released. -/
def Obligations.FrameEndAppendsTheAnswer : Prop :=
  (∀ s : State, s2Enabled s = true ↔ s.fault = none ∧ ∃ b, s.link.sr = some b) ∧
  ∀ (s : State) (b p : Byte) (rest : List Move),
    s.fault = none → s.env = .s2 p :: rest → s.link.sr = some b →
    (s.link.rxf.length = 8 →
      step s = .next { s with fault := some .rxOverrun, env := rest, tick := s.tick + 1 }) ∧
    (s.link.rxf.length ≠ 8 →
      let answer := if s.params.loopback = true then b else p
      step s = .next
        { s with
          link := { s.link with
            rxf := s.link.rxf ++ [answer]
            sr := none
            csActive := if s.regs.csmode = .auto then false else s.link.csActive }
          ports := { s.ports with
            wire := s.ports.wire ++ [.frame b answer] ++
              (if s.regs.csmode = .auto then [.csDeassert s.regs.csid] else []) }
          env := rest
          tick := s.tick + 1 })

/-- What the environment never does (R216): a Shifter step leaves the Transfer State, the fields, the client, the pins, BUF,
`cur`, `inited`, the responses and the completions; it never pushes TXF or pops RXF; it loses and makes no byte, and with a
loopback peer keeps their order. -/
def Obligations.ShifterTouchesOnlyTheLink : Prop :=
  ∀ (s t : State) (rest : List Move), (s.env = .s1 :: rest ∨ ∃ p, s.env = .s2 p :: rest) →
    step s = .next t →
    t.xfer = s.xfer ∧ t.regs = s.regs ∧ t.client = s.client ∧ t.pinfn = s.pinfn ∧
      (∀ a, memRead t.mem a = memRead s.mem a) ∧ t.cur = s.cur ∧ t.inited = s.inited ∧
      t.ports.responses = s.ports.responses ∧ t.ports.completions = s.ports.completions ∧
      (t.link.txf = s.link.txf ∨ ∃ b, s.link.txf = b :: t.link.txf) ∧
      (t.link.rxf = s.link.rxf ∨ ∃ p, t.link.rxf = s.link.rxf ++ [p]) ∧
      outstanding t = outstanding s ∧
      (s.params.loopback = true →
        t.link.rxf ++ t.link.sr.toList ++ t.link.txf = s.link.rxf ++ s.link.sr.toList ++ s.link.txf)

/-- `cs_active` changes only as R211 lists: `S1` sets it; `S2` in AUTO, RELLOW and completion with no frame in flight clear
it; INIT and SETCS may clear it under an asserted line; reset clears it (R250). The physical level of a line is its `csdef` bit,
complemented iff the line is asserted and `csid` names it (R28, R37, R211), for a `csid` below `NCS`; after a write of `csid` or
`csdef` under an asserted line, where the spec leaves the levels open, that they follow this rule is the model's choice (log 21). -/
def Obligations.ChipSelectChangesOnlyAsListed : Prop :=
  (∀ (s : State) (k : Nat), s.regs.csid.toNat < s.params.ncs →
    (∀ d, s.regs.csdef[k]? = some d →
      lineLevel s k = some (if s.link.csActive = true ∧ k = s.regs.csid.toNat then !d else d)) ∧
    (s.regs.csdef[k]? = none → lineLevel s k = none)) ∧
  ∀ s t : State, step s = .next t → t.link.csActive ≠ s.link.csActive →
    resetNext s ∨
    (t.link.csActive = true ∧ (∃ rest, s.env = .s1 :: rest) ∧ s.link.sr = none ∧ s.link.txf ≠ []) ∨
    (t.link.csActive = false ∧
      ((∃ p rest, s.env = .s2 p :: rest ∧ s.regs.csmode = .auto ∧ s.link.sr ≠ none) ∨
        (issuesNext .rellow s ∧ s.link.sr = none) ∨
        (s.cur = .sFin ∧ s.link.sr = none) ∨
        issuesNext .init s ∨ ∃ id, issuesNext (.setcs id) s))

/-! ## Faults and reset (`60_exceptions.md`, `70_reset_and_hazards.md`) -/

/-- The `fault_code` port carries the numbers of R225, and in the hard fault state no step is enabled but reset (R226, R251). That
the model answers a stop by the name of the fault is its own choice (log 12). -/
def Obligations.HardFaultStopsEveryStepButReset : Prop :=
  (∀ s : State,
    (faultCode s = 0 ↔ s.fault = none) ∧ (faultCode s = 1 ↔ s.fault = some .rxFifoEmpty) ∧
    (faultCode s = 2 ↔ s.fault = some .txFifoFull) ∧ (faultCode s = 3 ↔ s.fault = some .noTxBuffer) ∧
    (faultCode s = 4 ↔ s.fault = some .noClient) ∧ (faultCode s = 5 ↔ s.fault = some .txOverflow) ∧
    (faultCode s = 6 ↔ s.fault = some .rxOverrun) ∧ (faultCode s = 7 ↔ s.fault = some .watermarkUnderflow)) ∧
  ∀ (s : State) (f : HardFault), s.fault = some f →
    (¬ resetNext s → step s = .fault (.halted f)) ∧
    (resetNext s → ∃ t, step s = .next t ∧ t.fault = none)

/-- The reset step, in any state (R250, R44): every piece of state the spec gives a reset value has it, BUF is not changed, no
record is emitted, the wire trace starts again empty. -/
def Obligations.ResetStepRestoresTheResetValues : Prop :=
  ∀ (s : State) (rest : List Move), s.env = .rst :: rest →
    ∃ t, step s = .next t ∧
      t.xfer.busy = false ∧ t.xfer.txc = none ∧ t.xfer.rxc = none ∧
      t.xfer.ioLen = 0 ∧ t.xfer.txOffset = 0 ∧ t.xfer.rxOffset = 0 ∧
      t.client = none ∧ t.link.txf = [] ∧ t.link.rxf = [] ∧ t.link.sr = none ∧
      t.link.csActive = false ∧ t.fault = none ∧ t.cur = .none ∧ t.pinfn = 0 ∧ t.inited = false ∧
      (∀ a, memRead t.mem a = memRead s.mem a) ∧ (∀ a, ownedByBlock t a = false) ∧
      t.ports.completions = s.ports.completions ∧ t.ports.responses = s.ports.responses ∧
      t.ports.wire = [] ∧ cmdReady t = true ∧ t.params = s.params

/-- The state right after reset holds the values R44 gives, for every value of the OPEN parameters. -/
def Obligations.ResetStateHasTheSpecifiedValues : Prop :=
  ∀ p : Params,
    let s := State.resetWith p
    s.xfer.busy = false ∧ s.xfer.txc = none ∧ s.xfer.rxc = none ∧
      s.xfer.ioLen = 0 ∧ s.xfer.txOffset = 0 ∧ s.xfer.rxOffset = 0 ∧
      s.client = none ∧ s.link.txf = [] ∧ s.link.rxf = [] ∧ s.link.sr = none ∧
      s.link.csActive = false ∧ s.fault = none ∧ s.cur = .none ∧ s.pinfn = 0 ∧ s.inited = false ∧
      cmdReady s = true ∧ faultCode s = 0

/-- Reset is the only exit from the hard fault state and the only way to clear `client.valid`, `inited` and `pinfn`
(R251). -/
def Obligations.OnlyResetClearsTheStickyState : Prop :=
  ∀ s t : State, step s = .next t → ¬ resetNext s →
    s.fault = none ∧
    (∀ id, s.client = some id → t.client = some id) ∧
    (s.inited = true → t.inited = true) ∧
    (t.pinfn = s.pinfn ∨ t.pinfn = 0b1111)

/-- The pending flags are the levels gated by the enables (R33), and `irq` of an initialised block is their OR (R42). Before
INIT `irq` is a draw: `BeforeInitOnlyFourOperationsRun`. -/
def Obligations.IrqIsTheOrOfThePendingFlags : Prop :=
  ∀ s : State,
    (ipRx s = true ↔ s.regs.ieRx = true ∧ s.regs.rxmark.toNat < s.link.rxf.length) ∧
    (ipTx s = true ↔ s.regs.ieTx = true ∧ s.link.txf.length < 1) ∧
    (s.inited = true → (irq s = true ↔ ipRx s = true ∨ ipTx s = true))

/-- The writers of the enable bits are INIT, SUBMIT and the phases of SERVICE; the Caller has no other way to them
(R32, R235). Reset is the other. -/
def Obligations.InterruptEnablesHaveOnlyTheseWriters : Prop :=
  ∀ s t : State, step s = .next t → (t.regs.ieTx ≠ s.regs.ieTx ∨ t.regs.ieRx ≠ s.regs.ieRx) →
    resetNext s ∨ issuesNext .init s ∨ (∃ n w r, issuesNext (.submit n w r) s) ∨
      s.cur = .sRxl ∨ (∃ i before stop, s.cur = .sTxl i before stop) ∨ s.cur = .sFin

/-! ## Buffers and the host (`20_memory.md`) -/

/-- A host access to a byte the block owns is refused; a host store to any other byte stores it and changes no other byte
(R75, R72). The form of a host access is the model's (log 16). -/
def Obligations.HostReachesOnlyBytesItOwns : Prop :=
  ∀ (s : State) (a : Word) (v : Byte) (rest : List Move),
    s.fault = none → s.cur = .none → Memory.wf s.mem = true →
    ((∃ h, (s.xfer.txc = some h ∨ s.xfer.rxc = some h) ∧
        h.base.toNat ≤ a.toNat ∧ a.toNat < h.base.toNat + h.len.toNat) →
      (s.env = .hostWrite a v :: rest → step s = .refused (.ownedByte a.toNat)) ∧
      (s.env = .hostRead a :: rest → step s = .refused (.ownedByte a.toNat))) ∧
    ((¬ ∃ h, (s.xfer.txc = some h ∨ s.xfer.rxc = some h) ∧
        h.base.toNat ≤ a.toNat ∧ a.toNat < h.base.toNat + h.len.toNat) →
      (s.env = .hostWrite a v :: rest →
        ∃ m, step s = .next { s with mem := m, env := rest, tick := s.tick + 1 } ∧
          memRead m a.toNat = v ∧ (∀ b, b ≠ a.toNat → memRead m b = memRead s.mem b) ∧
          Memory.wf m = true) ∧
      (s.env = .hostRead a :: rest →
        step s = .next { s with env := rest, tick := s.tick + 1 }))

/-! ## Whole-machine rules -/

/-- The invariant holds after reset. -/
def Obligations.ResetMeetsTheInvariant : Prop := ∀ p : Params, Inv (State.resetWith p)

/-- Every step of every agent keeps the invariant: I-1 and I-5 of R21, the FIFO capacities (R35), the canonical form of BUF,
every access inside its handle (R183, R186), disjoint buffers (R77), the one frame format (R29). -/
def Obligations.EveryStepKeepsTheInvariant : Prop :=
  ∀ s t : State, Inv s → step s = .next t → Inv t

/-- In the states of a run no step stops the machine but in the hard fault state, and the only refusal is a host access to an
owned byte: no micro-step leaves BUF or meets a state without a rule. That a move whose agent is not enabled counts as a next
state is the model's (log 2). -/
def Obligations.RunsStopOnlyAtHardFaultsAndOwnedBytes : Prop :=
  ∀ s : State, Inv s → s.fault = none →
    (∃ t, step s = .next t) ∨
      ∃ a v rest, (s.env = .hostWrite a v :: rest ∨ s.env = .hostRead a :: rest) ∧
        s.cur = .none ∧ ownedByBlock s a.toNat = true ∧ step s = .refused (.ownedByte a.toNat)

/-- Which hard faults a run that keeps H-5 can meet: never `TxFifoFull` (R228) and never `TxOverflow` (R231);
`WatermarkUnderflow` only from a SUBMIT with a read buffer of length 0 (R233); `NoTxBuffer` only from a spurious pass while
idle (R229). -/
def Obligations.UnreachableHardFaultsStayUnreached : Prop :=
  ∀ (s t : State) (f : HardFault), Inv s → Balanced s → s.fault = none → step s = .next t →
    t.fault = some f →
    f ≠ .txFifoFull ∧ f ≠ .txOverflow ∧
    (f = .watermarkUnderflow → ∃ n w h, issuesNext (.submit n w (some h)) s ∧ h.len = 0) ∧
    (f = .noTxBuffer → s.cur = .sFin ∧ s.xfer.busy = false)

/-- The full-duplex accounting of R214 is kept by every step but an INIT taken while a transfer is in flight (R258). So is the pace
of the safe schedule, if SERVICE is issued during a transfer only with the receive flag set; and it gives R190 (1): when a pass
starts with that flag, RXF holds the whole burst, TXF and `sr` are empty. -/
def Obligations.EveryStepKeepsTheAccounting : Prop :=
  (∀ s t : State, Inv s → Balanced s → ¬ initWhileBusy s → step s = .next t → Balanced t) ∧
  (∀ s t : State, Inv s → Balanced s → Paced s → ¬ initWhileBusy s →
    (issuesNext .service s → s.xfer.busy = true → ipRx s = true) → step s = .next t → Paced t) ∧
  (∀ s : State, Balanced s → Paced s → s.fault = none → s.xfer.busy = true → s.cur = .none ∨ s.cur = .sRxt →
    ipRx s = true →
      s.link.rxf.length = s.xfer.txOffset.toNat - s.xfer.rxOffset.toNat ∧ s.link.txf = [] ∧ s.link.sr = none)

/-- With a loopback peer every step but an INIT taken while a transfer is in flight keeps the echo: the bytes on their way back
are the write buffer's in order, and the bytes stored are the write buffer's (R73, R206, R213). -/
def Obligations.EveryStepKeepsTheEcho : Prop :=
  ∀ s t : State, Inv s → Balanced s → Echoing s → ¬ initWhileBusy s → step s = .next t → Echoing t

/-- E7: a completed transfer with a loopback peer has filled the read buffer with what was sent. -/
def Obligations.CompletedLoopbackTransferEchoesTheBuffer : Prop :=
  ∀ (s t : State) (d : Completion), Inv s → Balanced s → Echoing s → s.params.loopback = true →
    step s = .next t → t.ports.completions = s.ports.completions ++ [d] →
    ∀ r, d.r = some r → ∀ j, j < d.len.toNat →
      memRead t.mem (r.base.toNat + j) = memRead t.mem (d.w.base.toNat + j)

/-- Once busy is set it clears only through completion, or by reset (R242); completion emits exactly one record, of the whole
handles and the length exchanged, and leaves the counters zero (I-3 of R21, R22). No other step emits a record. Its `done_status`
is 0, `Success` (R107). -/
def Obligations.BusyEndsOnlyWithOneCompletion : Prop :=
  (doneStatusCode .success = 0 ∧ doneStatusCode .hardwareError = 1) ∧
  ∀ s t : State, Inv s → step s = .next t → ¬ resetNext s →
    (s.xfer.busy = true ∧ t.xfer.busy = false ∧ s.cur = .sFin ∧
        t.xfer.txc = none ∧ t.xfer.rxc = none ∧
        t.xfer.ioLen = 0 ∧ t.xfer.txOffset = 0 ∧ t.xfer.rxOffset = 0 ∧
        ∃ w id, s.xfer.txc = some w ∧ s.client = some id ∧
          t.ports.completions = s.ports.completions ++
            [{ client := id, w := w, r := s.xfer.rxc, len := s.xfer.ioLen, status := .success }]) ∨
      (t.ports.completions = s.ports.completions ∧ (s.xfer.busy = true → t.xfer.busy = true))

/-- Between submission and completion the offsets never decrease and the length and the handles do not change, INIT while busy
apart (R22). -/
def Obligations.TransferAdvancesMonotonically : Prop :=
  ∀ s t : State, Inv s → step s = .next t → s.xfer.busy = true → t.xfer.busy = true → t.fault = none →
    ¬ initWhileBusy s →
    s.xfer.rxOffset.toNat ≤ t.xfer.rxOffset.toNat ∧ s.xfer.txOffset.toNat ≤ t.xfer.txOffset.toNat ∧
      t.xfer.ioLen = s.xfer.ioLen ∧ t.xfer.txc = s.xfer.txc ∧ t.xfer.rxc = s.xfer.rxc

/-- The clock divisor, polarity, phase, frame format, delay and flash controls and the pins change no byte value and no order
of steps (R26, R27, R30, R201): a state that differs only in them takes the same step in everything else but the data of a
response. -/
def Obligations.DataDoesNotDependOnClockSettings : Prop :=
  ∀ (s t : State) (div : BitVec 12) (divSet : Bool) (pol pha : BitVec 1) (fmt : Format)
    (delay fctrl : Nat) (pinfn : BitVec 4),
    step s = .next t →
    ∃ t', step { s with
        regs := { s.regs with
          div := div, divSet := divSet, pol := pol, pha := pha, fmt := fmt, delay := delay, fctrl := fctrl }
        pinfn := pinfn } = .next t' ∧
      t'.xfer = t.xfer ∧ t'.link = t.link ∧ t'.mem = t.mem ∧ t'.cur = t.cur ∧ t'.fault = t.fault ∧
      t'.client = t.client ∧ t'.inited = t.inited ∧
      t'.regs.csid = t.regs.csid ∧ t'.regs.csdef = t.regs.csdef ∧ t'.regs.csmode = t.regs.csmode ∧
      t'.regs.rxmark = t.regs.rxmark ∧ t'.regs.ieTx = t.regs.ieTx ∧ t'.regs.ieRx = t.regs.ieRx ∧
      t'.ports.wire = t.ports.wire ∧ t'.ports.completions = t.ports.completions ∧
      t'.ports.responses.map (fun x => x.status) = t.ports.responses.map (fun x => x.status)
end

