-- ==== Sys2Proof/Laws/Decode.lean ====
section
/-! SUPPORT. The command words and their packing (`30_encoding.md` R101 to R104). -/

namespace Sys2Proof

/-- Packing six words and reading them back changes nothing (R101). -/
@[simp] theorem unpackCmd_packCmd (c : Cmd) : unpackCmd (packCmd c) = c := by
  obtain ⟨w0, a0, a1, a2, a3, a4⟩ := c
  simp only [unpackCmd, packCmd, Cmd.mk.injEq]
  refine ⟨?_, ?_, ?_, ?_, ?_, ?_⟩
  · rw [BitVec.extractLsb'_append_eq_of_add_le (by decide), BitVec.extractLsb'_eq_self]
  · rw [BitVec.extractLsb'_append_eq_of_le (by decide),
      BitVec.extractLsb'_append_eq_of_add_le (by decide), BitVec.extractLsb'_eq_self]
  · rw [BitVec.extractLsb'_append_eq_of_le (by decide), BitVec.extractLsb'_append_eq_of_le (by decide),
      BitVec.extractLsb'_append_eq_of_add_le (by decide), BitVec.extractLsb'_eq_self]
  · rw [BitVec.extractLsb'_append_eq_of_le (by decide), BitVec.extractLsb'_append_eq_of_le (by decide),
      BitVec.extractLsb'_append_eq_of_le (by decide),
      BitVec.extractLsb'_append_eq_of_add_le (by decide), BitVec.extractLsb'_eq_self]
  · rw [BitVec.extractLsb'_append_eq_of_le (by decide), BitVec.extractLsb'_append_eq_of_le (by decide),
      BitVec.extractLsb'_append_eq_of_le (by decide), BitVec.extractLsb'_append_eq_of_le (by decide),
      BitVec.extractLsb'_append_eq_of_add_le (by decide), BitVec.extractLsb'_eq_self]
  · rw [BitVec.extractLsb'_append_eq_of_le (by decide), BitVec.extractLsb'_append_eq_of_le (by decide),
      BitVec.extractLsb'_append_eq_of_le (by decide), BitVec.extractLsb'_append_eq_of_le (by decide),
      BitVec.extractLsb'_append_eq_of_le (by decide), BitVec.extractLsb'_eq_self]

theorem opOfCode_opCode (o : Op) : opOfCode (opCode o) = some o := by cases o <;> rfl

theorem headerReserved_headerWord (o : Op) (b : Bool) : headerReserved (headerWord o b) = 0 := by
  cases o <;> cases b <;> decide

theorem headerOp_headerWord (o : Op) (b : Bool) : headerOp (headerWord o b) = opCode o := by
  cases o <;> cases b <;> decide

theorem headerRxp_headerWord (o : Op) (b : Bool) : headerRxp (headerWord o b) = b := by
  cases o <;> cases b <;> decide

/-- A narrow operand written with zeros above it reads back. -/
theorem narrowOperand_setWidth {n : Nat} (v : BitVec n) (hn : n ≤ 32) (k : BitVec n → Instr) :
    narrowOperand n (v.setWidth 32) k = .ok (k v) := by
  have h1 : (v.setWidth 32).toNat = v.toNat := by
    simp only [BitVec.toNat_setWidth]
    exact Nat.mod_eq_of_lt (Nat.lt_of_lt_of_le v.isLt (Nat.pow_le_pow_right (by decide) hn))
  have h2 : (v.setWidth 32).setWidth n = v := by
    apply BitVec.eq_of_toNat_eq
    rw [BitVec.toNat_setWidth, h1, Nat.mod_eq_of_lt v.isLt]
  rw [narrowOperand, h1, if_pos v.isLt, h2]

/-- The packed form of a command decodes as its six words do. -/
theorem decode_packCmd (c : Cmd) : decode (packCmd c) = decodeCmd c := by simp [decode]

/-- A narrow operand that decodes gives the instruction its continuation builds (R103). -/
theorem opOf_narrowOperand {n : Nat} {a : Word} {k : BitVec n → Instr} {i : Instr} {o : Op}
    (h : narrowOperand n a k = .ok i) (hk : ∀ v, opOf (k v) = o) : opOf i = o := by
  unfold narrowOperand at h
  split at h <;> cases h
  exact hk _

/-- Everything a command that decodes says of its header: the tests (1) to (3) of R108 passed, and the opcode is the
operation's. -/
theorem header_of_decodeCmd {c : Cmd} {i : Instr} (h : decodeCmd c = .ok i) :
    headerReserved c.w0 = 0 ∧ opOfCode (headerOp c.w0) = some (opOf i) ∧
      (headerRxp c.w0 = true → opOf i = .submit) := by
  unfold decodeCmd at h
  split at h
  · cases h
  · next hr =>
    split at h
    · cases h
    · next o ho =>
      split at h
      · cases h
      · next hx =>
        have hi : opOf i = o := by
          cases o <;> simp only [decodeOperands] at h <;>
            first | (cases h; rfl) | exact opOf_narrowOperand h (fun _ => rfl)
        refine ⟨by simpa using hr, by rw [hi, ho], fun hp => ?_⟩
        rw [hi]
        by_contra hc
        exact hx ⟨hp, hc⟩

end Sys2Proof
end

