-- ==== Sys2Proof/Laws/Memory.lean ====
section
/-! SUPPORT. The laws of BUF: a read after a write, the canonical form, byte ranges. -/

namespace Sys2Proof.Machine

theorem memRead_of_sorted_above {lo a : Nat} {m : Memory} (h : memSorted lo m = true) (ha : a < lo) :
    memRead m a = Config.unlistedByte := by
  induction m generalizing lo with
  | nil => rfl
  | cons c rest ih =>
    obtain ⟨k, x⟩ := c
    simp only [memSorted, Bool.and_eq_true, decide_eq_true_eq] at h
    have : a ≠ k := by omega
    simp only [memRead, if_neg this]
    exact ih h.2 (by omega)

/-- A byte reads as it was last written. -/
theorem memRead_memWrite_same {lo a : Nat} {m : Memory} (h : memSorted lo m = true) (v : Byte) :
    memRead (memWrite m a v) a = v := by
  induction m generalizing lo with
  | nil => by_cases hv : v = Config.unlistedByte <;> simp [memWrite, memRead, hv]
  | cons c rest ih =>
    obtain ⟨k, x⟩ := c
    simp only [memSorted, Bool.and_eq_true, decide_eq_true_eq] at h
    by_cases h1 : a < k
    · by_cases hv : v = Config.unlistedByte
      · have : a ≠ k := by omega
        simp [memWrite, memRead, h1, hv, this,
          memRead_of_sorted_above h.2 (Nat.lt_succ_of_lt h1)]
      · simp [memWrite, memRead, h1, hv]
    · by_cases h2 : a = k
      · subst h2
        by_cases hv : v = Config.unlistedByte
        · simp [memWrite, hv, memRead_of_sorted_above h.2 (Nat.lt_succ_self a)]
        · simp [memWrite, memRead, hv]
      · simp [memWrite, memRead, h1, h2, ih h.2]

/-- A write leaves every other byte as it was. -/
theorem memRead_memWrite_other {a b : Nat} (m : Memory) (v : Byte) (h : b ≠ a) :
    memRead (memWrite m a v) b = memRead m b := by
  induction m with
  | nil => by_cases hv : v = Config.unlistedByte <;> simp [memWrite, memRead, hv, h]
  | cons c rest ih =>
    obtain ⟨k, x⟩ := c
    by_cases h1 : a < k
    · by_cases hv : v = Config.unlistedByte <;> simp [memWrite, memRead, h1, hv, h]
    · by_cases h2 : a = k
      · subst h2
        by_cases hv : v = Config.unlistedByte <;> simp [memWrite, memRead, hv, h]
      · simp [memWrite, memRead, h1, h2, ih]

theorem memSorted_weaken {lo lo' : Nat} {m : Memory} (h : memSorted lo m = true) (hl : lo' ≤ lo) :
    memSorted lo' m = true := by
  cases m with
  | nil => rfl
  | cons c rest =>
    obtain ⟨k, x⟩ := c
    simp only [memSorted, Bool.and_eq_true, decide_eq_true_eq] at h ⊢
    exact ⟨⟨⟨by omega, h.1.1.2⟩, h.1.2⟩, h.2⟩

/-- A write keeps the canonical form. -/
theorem memWrite_memSorted {lo a : Nat} {m : Memory} (h : memSorted lo m = true) (hlo : lo ≤ a)
    (ha : a < Config.bufSize) (v : Byte) : memSorted lo (memWrite m a v) = true := by
  induction m generalizing lo with
  | nil => by_cases hv : v = Config.unlistedByte <;> simp [memWrite, memSorted, hv, hlo, ha]
  | cons c rest ih =>
    obtain ⟨k, x⟩ := c
    have h' := h
    simp only [memSorted, Bool.and_eq_true, decide_eq_true_eq] at h
    by_cases h1 : a < k
    · by_cases hv : v = Config.unlistedByte
      · simpa [memWrite, h1, hv] using h'
      · have h3 : a + 1 ≤ k := h1
        simp [memWrite, memSorted, h1, hv, h.1.1.2, h.2, hlo, ha, h3]
        simpa using h.1.2
    · by_cases h2 : a = k
      · subst h2
        by_cases hv : v = Config.unlistedByte
        · simpa [memWrite, hv] using memSorted_weaken h.2 (by omega)
        · simp [memWrite, memSorted, hv, hlo, ha, h.2]
      · have h3 : memSorted (k + 1) (memWrite rest a v) = true := ih h.2 (by omega)
        have h4 : x ≠ Config.unlistedByte := by simpa using h.1.2
        simp [memWrite, h1, h2, memSorted, h.1.1.1, h.1.1.2, h4, h3]

theorem Memory.wf_memWrite {a : Nat} {m : Memory} (h : Memory.wf m = true) (ha : a < Config.bufSize) (v : Byte) :
    Memory.wf (memWrite m a v) = true :=
  memWrite_memSorted h (Nat.zero_le a) ha v

theorem Memory.wf_nil : Memory.wf [] = true := rfl

@[simp] theorem memBytes_length (m : Memory) (a n : Nat) : (memBytes m a n).length = n := by
  induction n generalizing a with
  | zero => rfl
  | succ n ih => simp [memBytes, ih]

theorem memBytes_append (m : Memory) (a n k : Nat) :
    memBytes m a (n + k) = memBytes m a n ++ memBytes m (a + n) k := by
  induction n generalizing a with
  | zero => simp [memBytes]
  | succ n ih =>
    have : n + 1 + k = (n + k) + 1 := by omega
    rw [this]
    simp [memBytes, ih, Nat.add_comm 1 n, Nat.add_assoc]

/-- Two memories that agree on a range have the same bytes in it. -/
theorem memBytes_congr {m m' : Memory} {a n : Nat} (h : ∀ i, i < n → memRead m (a + i) = memRead m' (a + i)) :
    memBytes m a n = memBytes m' a n := by
  induction n generalizing a with
  | zero => rfl
  | succ n ih =>
    have h0 := h 0 (Nat.succ_pos n)
    simp only [Nat.add_zero] at h0
    simp only [memBytes, h0]
    congr 1
    refine ih (a := a + 1) fun i hi => ?_
    have := h (i + 1) (by omega)
    simpa [Nat.add_assoc, Nat.add_comm 1 i] using this

/-- A write outside a range leaves the bytes of the range. -/
theorem memBytes_memWrite_outside {m : Memory} {a n b : Nat} {v : Byte} (h : b < a ∨ a + n ≤ b) :
    memBytes (memWrite m b v) a n = memBytes m a n :=
  memBytes_congr fun _ hi => memRead_memWrite_other m v (by omega)

end Sys2Proof.Machine
end

