-- ==== Sys2Proof/Laws/Operands.lean ====
section
/-! SUPPORT. The operand forms as arithmetic on numbers: rates, handles and lengths (`40_control_ops.md` R143, `42_submit.md`
R171, R172), each the form a claim states it in. -/

namespace Sys2Proof.Machine

/-- The rates SETRATE accepts (R134). -/
theorem rateInRange_iff (hz : Word) : rateInRange hz = true ↔ 1954 ≤ hz.toNat ∧ hz.toNat ≤ 8000000 := by
  unfold rateInRange
  rw [Bool.and_eq_true, decide_eq_true_eq, decide_eq_true_eq]
  rfl

/-- The quotient of `REF_HZ` by `div + 1` fits a word (R135). -/
theorem dividedRate_toNat (d : BitVec 12) : (dividedRate d).toNat = 8000000 / (d.toNat + 1) := by
  have : 8000000 / (d.toNat + 1) ≤ 8000000 := Nat.div_le_self ..
  simp [dividedRate, Config.refHz]
  omega

/-- A word is zero iff its number is. -/
theorem word_eq_zero_iff (x : Word) : x = 0 ↔ x.toNat = 0 :=
  ⟨fun h => by simp [h], fun h => BitVec.eq_of_toNat_eq (by simpa using h)⟩

/-- A well-formed handle (R71). -/
theorem handleWf_iff (h : Handle) : handleWf h = true ↔ h.base.toNat + h.len.toNat ≤ 2 ^ 32 := by
  unfold handleWf
  rw [decide_eq_true_eq]
  rfl

/-- Disjoint ranges (R77). -/
theorem handlesOverlap_eq_false_iff (w r : Handle) :
    handlesOverlap w r = false ↔
      (w.len = 0 ∨ r.len = 0 ∨ w.base.toNat + w.len.toNat ≤ r.base.toNat ∨
        r.base.toNat + r.len.toNat ≤ w.base.toNat) := by
  unfold handlesOverlap
  simp only [Bool.and_eq_false_iff, decide_eq_false_iff_not, word_eq_zero_iff]
  omega

/-- SUBMIT's test of its handles is R171. -/
theorem submitLegal_iff (w : Handle) (r : Option Handle) : submitLegal w r = true ↔ legalHandles w r := by
  unfold submitLegal legalHandles
  cases r with
  | none => simp only [Bool.and_true, handleWf_iff]; simp
  | some h =>
    simp only [Bool.and_eq_true, handleWf_iff, Bool.not_eq_true', handlesOverlap_eq_false_iff]
    simp

/-- `min` of two words is the lesser number (R9). -/
theorem minWord_toNat (a b : Word) : (minWord a b).toNat = min a.toNat b.toNat := by
  unfold minWord
  split <;> omega

/-- `tx_len` (R172). -/
theorem txLength_toNat (n : Word) (w : Handle) : (txLength n w).toNat = txLenNat n w := minWord_toNat ..

/-- `io_len` (R172). -/
theorem ioLength_toNat (n : Word) (w : Handle) (r : Option Handle) : (ioLength n w r).toNat = ioLenNat n w r := by
  cases r with
  | none => exact txLength_toNat n w
  | some h => simp only [ioLength, ioLenNat, minWord_toNat, txLength_toNat]

/-- The test of the zero length (R175). -/
theorem txLength_eq_zero_iff (n : Word) (w : Handle) : txLength n w = 0 ↔ txLenNat n w = 0 := by
  rw [word_eq_zero_iff, txLength_toNat]

/-- `min(tx_offset + 7, io_len)` fits a word (R143). -/
theorem burstEnd_toNat (tx io : Word) : (burstEnd tx io).toNat = min (tx.toNat + 7) io.toNat := by
  have : min (tx.toNat + 7) io.toNat < 2 ^ 32 := by
    have := io.isLt
    omega
  unfold burstEnd Config.burst
  rw [BitVec.toNat_ofNat, Nat.mod_eq_of_lt this]

end Sys2Proof.Machine
end

