-- ==== Sys2Proof/Laws/State.lean ====
section
/-! SUPPORT. One lemma per field and named update: what the update leaves as it was. Generated by name, so that no later
proof unfolds a record update. -/

namespace Sys2Proof.Machine

@[simp] theorem respond_xfer (st : Status) (d : Word) (s : State) : (respond st d s).xfer = s.xfer := rfl
@[simp] theorem respond_client (st : Status) (d : Word) (s : State) : (respond st d s).client = s.client := rfl
@[simp] theorem respond_regs (st : Status) (d : Word) (s : State) : (respond st d s).regs = s.regs := rfl
@[simp] theorem respond_link (st : Status) (d : Word) (s : State) : (respond st d s).link = s.link := rfl
@[simp] theorem respond_fault (st : Status) (d : Word) (s : State) : (respond st d s).fault = s.fault := rfl
@[simp] theorem respond_cur (st : Status) (d : Word) (s : State) : (respond st d s).cur = s.cur := rfl
@[simp] theorem respond_pinfn (st : Status) (d : Word) (s : State) : (respond st d s).pinfn = s.pinfn := rfl
@[simp] theorem respond_inited (st : Status) (d : Word) (s : State) : (respond st d s).inited = s.inited := rfl
@[simp] theorem respond_mem (st : Status) (d : Word) (s : State) : (respond st d s).mem = s.mem := rfl
@[simp] theorem respond_ports_completions (st : Status) (d : Word) (s : State) : (respond st d s).ports.completions = s.ports.completions := rfl
@[simp] theorem respond_ports_wire (st : Status) (d : Word) (s : State) : (respond st d s).ports.wire = s.ports.wire := rfl
@[simp] theorem respond_params (st : Status) (d : Word) (s : State) : (respond st d s).params = s.params := rfl
@[simp] theorem respond_env (st : Status) (d : Word) (s : State) : (respond st d s).env = s.env := rfl
@[simp] theorem respond_tick (st : Status) (d : Word) (s : State) : (respond st d s).tick = s.tick := rfl
@[simp] theorem respond_epoch (st : Status) (d : Word) (s : State) : (respond st d s).epoch = s.epoch := rfl
@[simp] theorem respond_ports_responses (st : Status) (d : Word) (s : State) : (respond st d s).ports.responses = s.ports.responses ++ [⟨st, d⟩] := rfl

@[simp] theorem emitWire_xfer (e : WireEvent) (s : State) : (emitWire e s).xfer = s.xfer := rfl
@[simp] theorem emitWire_client (e : WireEvent) (s : State) : (emitWire e s).client = s.client := rfl
@[simp] theorem emitWire_regs (e : WireEvent) (s : State) : (emitWire e s).regs = s.regs := rfl
@[simp] theorem emitWire_link (e : WireEvent) (s : State) : (emitWire e s).link = s.link := rfl
@[simp] theorem emitWire_fault (e : WireEvent) (s : State) : (emitWire e s).fault = s.fault := rfl
@[simp] theorem emitWire_cur (e : WireEvent) (s : State) : (emitWire e s).cur = s.cur := rfl
@[simp] theorem emitWire_pinfn (e : WireEvent) (s : State) : (emitWire e s).pinfn = s.pinfn := rfl
@[simp] theorem emitWire_inited (e : WireEvent) (s : State) : (emitWire e s).inited = s.inited := rfl
@[simp] theorem emitWire_mem (e : WireEvent) (s : State) : (emitWire e s).mem = s.mem := rfl
@[simp] theorem emitWire_ports_responses (e : WireEvent) (s : State) : (emitWire e s).ports.responses = s.ports.responses := rfl
@[simp] theorem emitWire_ports_completions (e : WireEvent) (s : State) : (emitWire e s).ports.completions = s.ports.completions := rfl
@[simp] theorem emitWire_params (e : WireEvent) (s : State) : (emitWire e s).params = s.params := rfl
@[simp] theorem emitWire_env (e : WireEvent) (s : State) : (emitWire e s).env = s.env := rfl
@[simp] theorem emitWire_tick (e : WireEvent) (s : State) : (emitWire e s).tick = s.tick := rfl
@[simp] theorem emitWire_epoch (e : WireEvent) (s : State) : (emitWire e s).epoch = s.epoch := rfl
@[simp] theorem emitWire_ports_wire (e : WireEvent) (s : State) : (emitWire e s).ports.wire = s.ports.wire ++ [e] := rfl

@[simp] theorem emitDone_xfer (d : Completion) (s : State) : (emitDone d s).xfer = s.xfer := rfl
@[simp] theorem emitDone_client (d : Completion) (s : State) : (emitDone d s).client = s.client := rfl
@[simp] theorem emitDone_regs (d : Completion) (s : State) : (emitDone d s).regs = s.regs := rfl
@[simp] theorem emitDone_link (d : Completion) (s : State) : (emitDone d s).link = s.link := rfl
@[simp] theorem emitDone_fault (d : Completion) (s : State) : (emitDone d s).fault = s.fault := rfl
@[simp] theorem emitDone_cur (d : Completion) (s : State) : (emitDone d s).cur = s.cur := rfl
@[simp] theorem emitDone_pinfn (d : Completion) (s : State) : (emitDone d s).pinfn = s.pinfn := rfl
@[simp] theorem emitDone_inited (d : Completion) (s : State) : (emitDone d s).inited = s.inited := rfl
@[simp] theorem emitDone_mem (d : Completion) (s : State) : (emitDone d s).mem = s.mem := rfl
@[simp] theorem emitDone_ports_responses (d : Completion) (s : State) : (emitDone d s).ports.responses = s.ports.responses := rfl
@[simp] theorem emitDone_ports_wire (d : Completion) (s : State) : (emitDone d s).ports.wire = s.ports.wire := rfl
@[simp] theorem emitDone_params (d : Completion) (s : State) : (emitDone d s).params = s.params := rfl
@[simp] theorem emitDone_env (d : Completion) (s : State) : (emitDone d s).env = s.env := rfl
@[simp] theorem emitDone_tick (d : Completion) (s : State) : (emitDone d s).tick = s.tick := rfl
@[simp] theorem emitDone_epoch (d : Completion) (s : State) : (emitDone d s).epoch = s.epoch := rfl
@[simp] theorem emitDone_ports_completions (d : Completion) (s : State) : (emitDone d s).ports.completions = s.ports.completions ++ [d] := rfl

@[simp] theorem pushTx_xfer (v : Byte) (s : State) : (pushTx v s).xfer = s.xfer := rfl
@[simp] theorem pushTx_client (v : Byte) (s : State) : (pushTx v s).client = s.client := rfl
@[simp] theorem pushTx_regs (v : Byte) (s : State) : (pushTx v s).regs = s.regs := rfl
@[simp] theorem pushTx_link_rxf (v : Byte) (s : State) : (pushTx v s).link.rxf = s.link.rxf := rfl
@[simp] theorem pushTx_link_sr (v : Byte) (s : State) : (pushTx v s).link.sr = s.link.sr := rfl
@[simp] theorem pushTx_link_csActive (v : Byte) (s : State) : (pushTx v s).link.csActive = s.link.csActive := rfl
@[simp] theorem pushTx_fault (v : Byte) (s : State) : (pushTx v s).fault = s.fault := rfl
@[simp] theorem pushTx_cur (v : Byte) (s : State) : (pushTx v s).cur = s.cur := rfl
@[simp] theorem pushTx_pinfn (v : Byte) (s : State) : (pushTx v s).pinfn = s.pinfn := rfl
@[simp] theorem pushTx_inited (v : Byte) (s : State) : (pushTx v s).inited = s.inited := rfl
@[simp] theorem pushTx_mem (v : Byte) (s : State) : (pushTx v s).mem = s.mem := rfl
@[simp] theorem pushTx_ports (v : Byte) (s : State) : (pushTx v s).ports = s.ports := rfl
@[simp] theorem pushTx_params (v : Byte) (s : State) : (pushTx v s).params = s.params := rfl
@[simp] theorem pushTx_env (v : Byte) (s : State) : (pushTx v s).env = s.env := rfl
@[simp] theorem pushTx_tick (v : Byte) (s : State) : (pushTx v s).tick = s.tick := rfl
@[simp] theorem pushTx_epoch (v : Byte) (s : State) : (pushTx v s).epoch = s.epoch := rfl
@[simp] theorem pushTx_link_txf (v : Byte) (s : State) : (pushTx v s).link.txf = s.link.txf ++ [v] := rfl

@[simp] theorem writeCsHold_xfer (s : State) : (writeCsHold s).xfer = s.xfer := rfl
@[simp] theorem writeCsHold_client (s : State) : (writeCsHold s).client = s.client := rfl
@[simp] theorem writeCsHold_regs_div (s : State) : (writeCsHold s).regs.div = s.regs.div := rfl
@[simp] theorem writeCsHold_regs_divSet (s : State) : (writeCsHold s).regs.divSet = s.regs.divSet := rfl
@[simp] theorem writeCsHold_regs_pol (s : State) : (writeCsHold s).regs.pol = s.regs.pol := rfl
@[simp] theorem writeCsHold_regs_pha (s : State) : (writeCsHold s).regs.pha = s.regs.pha := rfl
@[simp] theorem writeCsHold_regs_csid (s : State) : (writeCsHold s).regs.csid = s.regs.csid := rfl
@[simp] theorem writeCsHold_regs_csdef (s : State) : (writeCsHold s).regs.csdef = s.regs.csdef := rfl
@[simp] theorem writeCsHold_regs_delay (s : State) : (writeCsHold s).regs.delay = s.regs.delay := rfl
@[simp] theorem writeCsHold_regs_fmt (s : State) : (writeCsHold s).regs.fmt = s.regs.fmt := rfl
@[simp] theorem writeCsHold_regs_rxmark (s : State) : (writeCsHold s).regs.rxmark = s.regs.rxmark := rfl
@[simp] theorem writeCsHold_regs_fctrl (s : State) : (writeCsHold s).regs.fctrl = s.regs.fctrl := rfl
@[simp] theorem writeCsHold_regs_ieTx (s : State) : (writeCsHold s).regs.ieTx = s.regs.ieTx := rfl
@[simp] theorem writeCsHold_regs_ieRx (s : State) : (writeCsHold s).regs.ieRx = s.regs.ieRx := rfl
@[simp] theorem writeCsHold_link (s : State) : (writeCsHold s).link = s.link := rfl
@[simp] theorem writeCsHold_fault (s : State) : (writeCsHold s).fault = s.fault := rfl
@[simp] theorem writeCsHold_cur (s : State) : (writeCsHold s).cur = s.cur := rfl
@[simp] theorem writeCsHold_pinfn (s : State) : (writeCsHold s).pinfn = s.pinfn := rfl
@[simp] theorem writeCsHold_inited (s : State) : (writeCsHold s).inited = s.inited := rfl
@[simp] theorem writeCsHold_mem (s : State) : (writeCsHold s).mem = s.mem := rfl
@[simp] theorem writeCsHold_ports (s : State) : (writeCsHold s).ports = s.ports := rfl
@[simp] theorem writeCsHold_params (s : State) : (writeCsHold s).params = s.params := rfl
@[simp] theorem writeCsHold_env (s : State) : (writeCsHold s).env = s.env := rfl
@[simp] theorem writeCsHold_tick (s : State) : (writeCsHold s).tick = s.tick := rfl
@[simp] theorem writeCsHold_epoch (s : State) : (writeCsHold s).epoch = s.epoch := rfl
@[simp] theorem writeCsHold_regs_csmode (s : State) : (writeCsHold s).regs.csmode = .hold := rfl

@[simp] theorem zeroCounters_xfer_busy (s : State) : (zeroCounters s).xfer.busy = s.xfer.busy := rfl
@[simp] theorem zeroCounters_xfer_txc (s : State) : (zeroCounters s).xfer.txc = s.xfer.txc := rfl
@[simp] theorem zeroCounters_xfer_rxc (s : State) : (zeroCounters s).xfer.rxc = s.xfer.rxc := rfl
@[simp] theorem zeroCounters_client (s : State) : (zeroCounters s).client = s.client := rfl
@[simp] theorem zeroCounters_regs (s : State) : (zeroCounters s).regs = s.regs := rfl
@[simp] theorem zeroCounters_link (s : State) : (zeroCounters s).link = s.link := rfl
@[simp] theorem zeroCounters_fault (s : State) : (zeroCounters s).fault = s.fault := rfl
@[simp] theorem zeroCounters_cur (s : State) : (zeroCounters s).cur = s.cur := rfl
@[simp] theorem zeroCounters_pinfn (s : State) : (zeroCounters s).pinfn = s.pinfn := rfl
@[simp] theorem zeroCounters_inited (s : State) : (zeroCounters s).inited = s.inited := rfl
@[simp] theorem zeroCounters_mem (s : State) : (zeroCounters s).mem = s.mem := rfl
@[simp] theorem zeroCounters_ports (s : State) : (zeroCounters s).ports = s.ports := rfl
@[simp] theorem zeroCounters_params (s : State) : (zeroCounters s).params = s.params := rfl
@[simp] theorem zeroCounters_env (s : State) : (zeroCounters s).env = s.env := rfl
@[simp] theorem zeroCounters_tick (s : State) : (zeroCounters s).tick = s.tick := rfl
@[simp] theorem zeroCounters_epoch (s : State) : (zeroCounters s).epoch = s.epoch := rfl
@[simp] theorem zeroCounters_xfer_ioLen (s : State) : (zeroCounters s).xfer.ioLen = 0 := rfl
@[simp] theorem zeroCounters_xfer_txOffset (s : State) : (zeroCounters s).xfer.txOffset = 0 := rfl
@[simp] theorem zeroCounters_xfer_rxOffset (s : State) : (zeroCounters s).xfer.rxOffset = 0 := rfl

@[simp] theorem disarmBoth_xfer (s : State) : (disarmBoth s).xfer = s.xfer := rfl
@[simp] theorem disarmBoth_client (s : State) : (disarmBoth s).client = s.client := rfl
@[simp] theorem disarmBoth_regs_div (s : State) : (disarmBoth s).regs.div = s.regs.div := rfl
@[simp] theorem disarmBoth_regs_divSet (s : State) : (disarmBoth s).regs.divSet = s.regs.divSet := rfl
@[simp] theorem disarmBoth_regs_pol (s : State) : (disarmBoth s).regs.pol = s.regs.pol := rfl
@[simp] theorem disarmBoth_regs_pha (s : State) : (disarmBoth s).regs.pha = s.regs.pha := rfl
@[simp] theorem disarmBoth_regs_csid (s : State) : (disarmBoth s).regs.csid = s.regs.csid := rfl
@[simp] theorem disarmBoth_regs_csdef (s : State) : (disarmBoth s).regs.csdef = s.regs.csdef := rfl
@[simp] theorem disarmBoth_regs_csmode (s : State) : (disarmBoth s).regs.csmode = s.regs.csmode := rfl
@[simp] theorem disarmBoth_regs_delay (s : State) : (disarmBoth s).regs.delay = s.regs.delay := rfl
@[simp] theorem disarmBoth_regs_fmt (s : State) : (disarmBoth s).regs.fmt = s.regs.fmt := rfl
@[simp] theorem disarmBoth_regs_rxmark (s : State) : (disarmBoth s).regs.rxmark = s.regs.rxmark := rfl
@[simp] theorem disarmBoth_regs_fctrl (s : State) : (disarmBoth s).regs.fctrl = s.regs.fctrl := rfl
@[simp] theorem disarmBoth_link (s : State) : (disarmBoth s).link = s.link := rfl
@[simp] theorem disarmBoth_fault (s : State) : (disarmBoth s).fault = s.fault := rfl
@[simp] theorem disarmBoth_cur (s : State) : (disarmBoth s).cur = s.cur := rfl
@[simp] theorem disarmBoth_pinfn (s : State) : (disarmBoth s).pinfn = s.pinfn := rfl
@[simp] theorem disarmBoth_inited (s : State) : (disarmBoth s).inited = s.inited := rfl
@[simp] theorem disarmBoth_mem (s : State) : (disarmBoth s).mem = s.mem := rfl
@[simp] theorem disarmBoth_ports (s : State) : (disarmBoth s).ports = s.ports := rfl
@[simp] theorem disarmBoth_params (s : State) : (disarmBoth s).params = s.params := rfl
@[simp] theorem disarmBoth_env (s : State) : (disarmBoth s).env = s.env := rfl
@[simp] theorem disarmBoth_tick (s : State) : (disarmBoth s).tick = s.tick := rfl
@[simp] theorem disarmBoth_epoch (s : State) : (disarmBoth s).epoch = s.epoch := rfl
@[simp] theorem disarmBoth_regs_ieTx (s : State) : (disarmBoth s).regs.ieTx = false := rfl
@[simp] theorem disarmBoth_regs_ieRx (s : State) : (disarmBoth s).regs.ieRx = false := rfl

@[simp] theorem takeCells_xfer_busy (s : State) : (takeCells s).xfer.busy = s.xfer.busy := rfl
@[simp] theorem takeCells_xfer_ioLen (s : State) : (takeCells s).xfer.ioLen = s.xfer.ioLen := rfl
@[simp] theorem takeCells_xfer_txOffset (s : State) : (takeCells s).xfer.txOffset = s.xfer.txOffset := rfl
@[simp] theorem takeCells_xfer_rxOffset (s : State) : (takeCells s).xfer.rxOffset = s.xfer.rxOffset := rfl
@[simp] theorem takeCells_client (s : State) : (takeCells s).client = s.client := rfl
@[simp] theorem takeCells_regs (s : State) : (takeCells s).regs = s.regs := rfl
@[simp] theorem takeCells_link (s : State) : (takeCells s).link = s.link := rfl
@[simp] theorem takeCells_fault (s : State) : (takeCells s).fault = s.fault := rfl
@[simp] theorem takeCells_cur (s : State) : (takeCells s).cur = s.cur := rfl
@[simp] theorem takeCells_pinfn (s : State) : (takeCells s).pinfn = s.pinfn := rfl
@[simp] theorem takeCells_inited (s : State) : (takeCells s).inited = s.inited := rfl
@[simp] theorem takeCells_mem (s : State) : (takeCells s).mem = s.mem := rfl
@[simp] theorem takeCells_ports (s : State) : (takeCells s).ports = s.ports := rfl
@[simp] theorem takeCells_params (s : State) : (takeCells s).params = s.params := rfl
@[simp] theorem takeCells_env (s : State) : (takeCells s).env = s.env := rfl
@[simp] theorem takeCells_tick (s : State) : (takeCells s).tick = s.tick := rfl
@[simp] theorem takeCells_epoch (s : State) : (takeCells s).epoch = s.epoch := rfl
@[simp] theorem takeCells_xfer_txc (s : State) : (takeCells s).xfer.txc = none := rfl
@[simp] theorem takeCells_xfer_rxc (s : State) : (takeCells s).xfer.rxc = none := rfl

@[simp] theorem countStep_xfer (s : State) : (countStep s).xfer = s.xfer := rfl
@[simp] theorem countStep_client (s : State) : (countStep s).client = s.client := rfl
@[simp] theorem countStep_regs (s : State) : (countStep s).regs = s.regs := rfl
@[simp] theorem countStep_link (s : State) : (countStep s).link = s.link := rfl
@[simp] theorem countStep_fault (s : State) : (countStep s).fault = s.fault := rfl
@[simp] theorem countStep_cur (s : State) : (countStep s).cur = s.cur := rfl
@[simp] theorem countStep_pinfn (s : State) : (countStep s).pinfn = s.pinfn := rfl
@[simp] theorem countStep_inited (s : State) : (countStep s).inited = s.inited := rfl
@[simp] theorem countStep_mem (s : State) : (countStep s).mem = s.mem := rfl
@[simp] theorem countStep_ports (s : State) : (countStep s).ports = s.ports := rfl
@[simp] theorem countStep_params (s : State) : (countStep s).params = s.params := rfl
@[simp] theorem countStep_env (s : State) : (countStep s).env = s.env := rfl
@[simp] theorem countStep_epoch (s : State) : (countStep s).epoch = s.epoch := rfl
@[simp] theorem countStep_tick (s : State) : (countStep s).tick = s.tick + 1 := rfl

@[simp] theorem refillEnd_xfer_busy (b e : Word) (s : State) : (refillEnd b e s).xfer.busy = s.xfer.busy := rfl
@[simp] theorem refillEnd_xfer_txc (b e : Word) (s : State) : (refillEnd b e s).xfer.txc = s.xfer.txc := rfl
@[simp] theorem refillEnd_xfer_rxc (b e : Word) (s : State) : (refillEnd b e s).xfer.rxc = s.xfer.rxc := rfl
@[simp] theorem refillEnd_xfer_ioLen (b e : Word) (s : State) : (refillEnd b e s).xfer.ioLen = s.xfer.ioLen := rfl
@[simp] theorem refillEnd_xfer_rxOffset (b e : Word) (s : State) : (refillEnd b e s).xfer.rxOffset = s.xfer.rxOffset := rfl
@[simp] theorem refillEnd_client (b e : Word) (s : State) : (refillEnd b e s).client = s.client := rfl
@[simp] theorem refillEnd_regs_div (b e : Word) (s : State) : (refillEnd b e s).regs.div = s.regs.div := rfl
@[simp] theorem refillEnd_regs_divSet (b e : Word) (s : State) : (refillEnd b e s).regs.divSet = s.regs.divSet := rfl
@[simp] theorem refillEnd_regs_pol (b e : Word) (s : State) : (refillEnd b e s).regs.pol = s.regs.pol := rfl
@[simp] theorem refillEnd_regs_pha (b e : Word) (s : State) : (refillEnd b e s).regs.pha = s.regs.pha := rfl
@[simp] theorem refillEnd_regs_csid (b e : Word) (s : State) : (refillEnd b e s).regs.csid = s.regs.csid := rfl
@[simp] theorem refillEnd_regs_csdef (b e : Word) (s : State) : (refillEnd b e s).regs.csdef = s.regs.csdef := rfl
@[simp] theorem refillEnd_regs_csmode (b e : Word) (s : State) : (refillEnd b e s).regs.csmode = s.regs.csmode := rfl
@[simp] theorem refillEnd_regs_delay (b e : Word) (s : State) : (refillEnd b e s).regs.delay = s.regs.delay := rfl
@[simp] theorem refillEnd_regs_fmt (b e : Word) (s : State) : (refillEnd b e s).regs.fmt = s.regs.fmt := rfl
@[simp] theorem refillEnd_regs_fctrl (b e : Word) (s : State) : (refillEnd b e s).regs.fctrl = s.regs.fctrl := rfl
@[simp] theorem refillEnd_link (b e : Word) (s : State) : (refillEnd b e s).link = s.link := rfl
@[simp] theorem refillEnd_fault (b e : Word) (s : State) : (refillEnd b e s).fault = s.fault := rfl
@[simp] theorem refillEnd_pinfn (b e : Word) (s : State) : (refillEnd b e s).pinfn = s.pinfn := rfl
@[simp] theorem refillEnd_inited (b e : Word) (s : State) : (refillEnd b e s).inited = s.inited := rfl
@[simp] theorem refillEnd_mem (b e : Word) (s : State) : (refillEnd b e s).mem = s.mem := rfl
@[simp] theorem refillEnd_ports (b e : Word) (s : State) : (refillEnd b e s).ports = s.ports := rfl
@[simp] theorem refillEnd_params (b e : Word) (s : State) : (refillEnd b e s).params = s.params := rfl
@[simp] theorem refillEnd_env (b e : Word) (s : State) : (refillEnd b e s).env = s.env := rfl
@[simp] theorem refillEnd_tick (b e : Word) (s : State) : (refillEnd b e s).tick = s.tick := rfl
@[simp] theorem refillEnd_epoch (b e : Word) (s : State) : (refillEnd b e s).epoch = s.epoch := rfl
@[simp] theorem refillEnd_xfer_txOffset (b e : Word) (s : State) : (refillEnd b e s).xfer.txOffset = e := rfl
@[simp] theorem refillEnd_regs_rxmark (b e : Word) (s : State) : (refillEnd b e s).regs.rxmark = burstMark (e.toNat - b.toNat) := rfl
@[simp] theorem refillEnd_regs_ieTx (b e : Word) (s : State) : (refillEnd b e s).regs.ieTx = false := rfl
@[simp] theorem refillEnd_regs_ieRx (b e : Word) (s : State) : (refillEnd b e s).regs.ieRx = true := rfl
@[simp] theorem refillEnd_cur (b e : Word) (s : State) : (refillEnd b e s).cur = .sFin := rfl

@[simp] theorem armTransfer_xfer_busy (w : Handle) (r : Option Handle) (n : Nat) (s : State) : (armTransfer w r n s).xfer.busy = s.xfer.busy := rfl
@[simp] theorem armTransfer_xfer_ioLen (w : Handle) (r : Option Handle) (n : Nat) (s : State) : (armTransfer w r n s).xfer.ioLen = s.xfer.ioLen := rfl
@[simp] theorem armTransfer_client (w : Handle) (r : Option Handle) (n : Nat) (s : State) : (armTransfer w r n s).client = s.client := rfl
@[simp] theorem armTransfer_regs_div (w : Handle) (r : Option Handle) (n : Nat) (s : State) : (armTransfer w r n s).regs.div = s.regs.div := rfl
@[simp] theorem armTransfer_regs_divSet (w : Handle) (r : Option Handle) (n : Nat) (s : State) : (armTransfer w r n s).regs.divSet = s.regs.divSet := rfl
@[simp] theorem armTransfer_regs_pol (w : Handle) (r : Option Handle) (n : Nat) (s : State) : (armTransfer w r n s).regs.pol = s.regs.pol := rfl
@[simp] theorem armTransfer_regs_pha (w : Handle) (r : Option Handle) (n : Nat) (s : State) : (armTransfer w r n s).regs.pha = s.regs.pha := rfl
@[simp] theorem armTransfer_regs_csid (w : Handle) (r : Option Handle) (n : Nat) (s : State) : (armTransfer w r n s).regs.csid = s.regs.csid := rfl
@[simp] theorem armTransfer_regs_csdef (w : Handle) (r : Option Handle) (n : Nat) (s : State) : (armTransfer w r n s).regs.csdef = s.regs.csdef := rfl
@[simp] theorem armTransfer_regs_csmode (w : Handle) (r : Option Handle) (n : Nat) (s : State) : (armTransfer w r n s).regs.csmode = s.regs.csmode := rfl
@[simp] theorem armTransfer_regs_delay (w : Handle) (r : Option Handle) (n : Nat) (s : State) : (armTransfer w r n s).regs.delay = s.regs.delay := rfl
@[simp] theorem armTransfer_regs_fmt (w : Handle) (r : Option Handle) (n : Nat) (s : State) : (armTransfer w r n s).regs.fmt = s.regs.fmt := rfl
@[simp] theorem armTransfer_regs_fctrl (w : Handle) (r : Option Handle) (n : Nat) (s : State) : (armTransfer w r n s).regs.fctrl = s.regs.fctrl := rfl
@[simp] theorem armTransfer_link (w : Handle) (r : Option Handle) (n : Nat) (s : State) : (armTransfer w r n s).link = s.link := rfl
@[simp] theorem armTransfer_fault (w : Handle) (r : Option Handle) (n : Nat) (s : State) : (armTransfer w r n s).fault = s.fault := rfl
@[simp] theorem armTransfer_cur (w : Handle) (r : Option Handle) (n : Nat) (s : State) : (armTransfer w r n s).cur = s.cur := rfl
@[simp] theorem armTransfer_pinfn (w : Handle) (r : Option Handle) (n : Nat) (s : State) : (armTransfer w r n s).pinfn = s.pinfn := rfl
@[simp] theorem armTransfer_inited (w : Handle) (r : Option Handle) (n : Nat) (s : State) : (armTransfer w r n s).inited = s.inited := rfl
@[simp] theorem armTransfer_mem (w : Handle) (r : Option Handle) (n : Nat) (s : State) : (armTransfer w r n s).mem = s.mem := rfl
@[simp] theorem armTransfer_ports (w : Handle) (r : Option Handle) (n : Nat) (s : State) : (armTransfer w r n s).ports = s.ports := rfl
@[simp] theorem armTransfer_params (w : Handle) (r : Option Handle) (n : Nat) (s : State) : (armTransfer w r n s).params = s.params := rfl
@[simp] theorem armTransfer_env (w : Handle) (r : Option Handle) (n : Nat) (s : State) : (armTransfer w r n s).env = s.env := rfl
@[simp] theorem armTransfer_tick (w : Handle) (r : Option Handle) (n : Nat) (s : State) : (armTransfer w r n s).tick = s.tick := rfl
@[simp] theorem armTransfer_epoch (w : Handle) (r : Option Handle) (n : Nat) (s : State) : (armTransfer w r n s).epoch = s.epoch := rfl
@[simp] theorem armTransfer_xfer_txc (w : Handle) (r : Option Handle) (n : Nat) (s : State) : (armTransfer w r n s).xfer.txc = some w := rfl
@[simp] theorem armTransfer_xfer_rxOffset (w : Handle) (r : Option Handle) (n : Nat) (s : State) : (armTransfer w r n s).xfer.rxOffset = 0 := rfl
@[simp] theorem armTransfer_xfer_txOffset (w : Handle) (r : Option Handle) (n : Nat) (s : State) : (armTransfer w r n s).xfer.txOffset = BitVec.ofNat 32 n := rfl
@[simp] theorem armTransfer_regs_rxmark (w : Handle) (r : Option Handle) (n : Nat) (s : State) : (armTransfer w r n s).regs.rxmark = burstMark n := rfl
@[simp] theorem armTransfer_regs_ieRx (w : Handle) (r : Option Handle) (n : Nat) (s : State) : (armTransfer w r n s).regs.ieRx = true := rfl

@[simp] theorem raiseHardFault_xfer (f : HardFault) (s : State) : (raiseHardFault f s).xfer = s.xfer := by unfold raiseHardFault; split <;> rfl
@[simp] theorem raiseHardFault_client (f : HardFault) (s : State) : (raiseHardFault f s).client = s.client := by unfold raiseHardFault; split <;> rfl
@[simp] theorem raiseHardFault_regs (f : HardFault) (s : State) : (raiseHardFault f s).regs = s.regs := by unfold raiseHardFault; split <;> rfl
@[simp] theorem raiseHardFault_link (f : HardFault) (s : State) : (raiseHardFault f s).link = s.link := by unfold raiseHardFault; split <;> rfl
@[simp] theorem raiseHardFault_cur (f : HardFault) (s : State) : (raiseHardFault f s).cur = s.cur := by unfold raiseHardFault; split <;> rfl
@[simp] theorem raiseHardFault_pinfn (f : HardFault) (s : State) : (raiseHardFault f s).pinfn = s.pinfn := by unfold raiseHardFault; split <;> rfl
@[simp] theorem raiseHardFault_inited (f : HardFault) (s : State) : (raiseHardFault f s).inited = s.inited := by unfold raiseHardFault; split <;> rfl
@[simp] theorem raiseHardFault_mem (f : HardFault) (s : State) : (raiseHardFault f s).mem = s.mem := by unfold raiseHardFault; split <;> rfl
@[simp] theorem raiseHardFault_ports (f : HardFault) (s : State) : (raiseHardFault f s).ports = s.ports := by unfold raiseHardFault; split <;> rfl
@[simp] theorem raiseHardFault_params (f : HardFault) (s : State) : (raiseHardFault f s).params = s.params := by unfold raiseHardFault; split <;> rfl
@[simp] theorem raiseHardFault_env (f : HardFault) (s : State) : (raiseHardFault f s).env = s.env := by unfold raiseHardFault; split <;> rfl
@[simp] theorem raiseHardFault_tick (f : HardFault) (s : State) : (raiseHardFault f s).tick = s.tick := by unfold raiseHardFault; split <;> rfl
@[simp] theorem raiseHardFault_epoch (f : HardFault) (s : State) : (raiseHardFault f s).epoch = s.epoch := by unfold raiseHardFault; split <;> rfl

@[simp] theorem disturbLine_xfer (k : Nat) (s : State) : (disturbLine k s).xfer = s.xfer := by unfold disturbLine; split <;> rfl
@[simp] theorem disturbLine_client (k : Nat) (s : State) : (disturbLine k s).client = s.client := by unfold disturbLine; split <;> rfl
@[simp] theorem disturbLine_regs (k : Nat) (s : State) : (disturbLine k s).regs = s.regs := by unfold disturbLine; split <;> rfl
@[simp] theorem disturbLine_link_txf (k : Nat) (s : State) : (disturbLine k s).link.txf = s.link.txf := by unfold disturbLine; split <;> rfl
@[simp] theorem disturbLine_link_rxf (k : Nat) (s : State) : (disturbLine k s).link.rxf = s.link.rxf := by unfold disturbLine; split <;> rfl
@[simp] theorem disturbLine_link_sr (k : Nat) (s : State) : (disturbLine k s).link.sr = s.link.sr := by unfold disturbLine; split <;> rfl
@[simp] theorem disturbLine_fault (k : Nat) (s : State) : (disturbLine k s).fault = s.fault := by unfold disturbLine; split <;> rfl
@[simp] theorem disturbLine_cur (k : Nat) (s : State) : (disturbLine k s).cur = s.cur := by unfold disturbLine; split <;> rfl
@[simp] theorem disturbLine_pinfn (k : Nat) (s : State) : (disturbLine k s).pinfn = s.pinfn := by unfold disturbLine; split <;> rfl
@[simp] theorem disturbLine_inited (k : Nat) (s : State) : (disturbLine k s).inited = s.inited := by unfold disturbLine; split <;> rfl
@[simp] theorem disturbLine_mem (k : Nat) (s : State) : (disturbLine k s).mem = s.mem := by unfold disturbLine; split <;> rfl
@[simp] theorem disturbLine_ports_responses (k : Nat) (s : State) : (disturbLine k s).ports.responses = s.ports.responses := by unfold disturbLine; split <;> rfl
@[simp] theorem disturbLine_ports_completions (k : Nat) (s : State) : (disturbLine k s).ports.completions = s.ports.completions := by unfold disturbLine; split <;> rfl
@[simp] theorem disturbLine_params (k : Nat) (s : State) : (disturbLine k s).params = s.params := by unfold disturbLine; split <;> rfl
@[simp] theorem disturbLine_env (k : Nat) (s : State) : (disturbLine k s).env = s.env := by unfold disturbLine; split <;> rfl
@[simp] theorem disturbLine_tick (k : Nat) (s : State) : (disturbLine k s).tick = s.tick := by unfold disturbLine; split <;> rfl
@[simp] theorem disturbLine_epoch (k : Nat) (s : State) : (disturbLine k s).epoch = s.epoch := by unfold disturbLine; split <;> rfl

@[simp] theorem writeCsid_xfer (v : Word) (s : State) : (writeCsid v s).xfer = s.xfer := by simp [writeCsid]
@[simp] theorem writeCsid_client (v : Word) (s : State) : (writeCsid v s).client = s.client := by simp [writeCsid]
@[simp] theorem writeCsid_regs_div (v : Word) (s : State) : (writeCsid v s).regs.div = s.regs.div := by simp [writeCsid]
@[simp] theorem writeCsid_regs_divSet (v : Word) (s : State) : (writeCsid v s).regs.divSet = s.regs.divSet := by simp [writeCsid]
@[simp] theorem writeCsid_regs_pol (v : Word) (s : State) : (writeCsid v s).regs.pol = s.regs.pol := by simp [writeCsid]
@[simp] theorem writeCsid_regs_pha (v : Word) (s : State) : (writeCsid v s).regs.pha = s.regs.pha := by simp [writeCsid]
@[simp] theorem writeCsid_regs_csdef (v : Word) (s : State) : (writeCsid v s).regs.csdef = s.regs.csdef := by simp [writeCsid]
@[simp] theorem writeCsid_regs_csmode (v : Word) (s : State) : (writeCsid v s).regs.csmode = s.regs.csmode := by simp [writeCsid]
@[simp] theorem writeCsid_regs_delay (v : Word) (s : State) : (writeCsid v s).regs.delay = s.regs.delay := by simp [writeCsid]
@[simp] theorem writeCsid_regs_fmt (v : Word) (s : State) : (writeCsid v s).regs.fmt = s.regs.fmt := by simp [writeCsid]
@[simp] theorem writeCsid_regs_rxmark (v : Word) (s : State) : (writeCsid v s).regs.rxmark = s.regs.rxmark := by simp [writeCsid]
@[simp] theorem writeCsid_regs_fctrl (v : Word) (s : State) : (writeCsid v s).regs.fctrl = s.regs.fctrl := by simp [writeCsid]
@[simp] theorem writeCsid_regs_ieTx (v : Word) (s : State) : (writeCsid v s).regs.ieTx = s.regs.ieTx := by simp [writeCsid]
@[simp] theorem writeCsid_regs_ieRx (v : Word) (s : State) : (writeCsid v s).regs.ieRx = s.regs.ieRx := by simp [writeCsid]
@[simp] theorem writeCsid_link_txf (v : Word) (s : State) : (writeCsid v s).link.txf = s.link.txf := by simp [writeCsid]
@[simp] theorem writeCsid_link_rxf (v : Word) (s : State) : (writeCsid v s).link.rxf = s.link.rxf := by simp [writeCsid]
@[simp] theorem writeCsid_link_sr (v : Word) (s : State) : (writeCsid v s).link.sr = s.link.sr := by simp [writeCsid]
@[simp] theorem writeCsid_fault (v : Word) (s : State) : (writeCsid v s).fault = s.fault := by simp [writeCsid]
@[simp] theorem writeCsid_cur (v : Word) (s : State) : (writeCsid v s).cur = s.cur := by simp [writeCsid]
@[simp] theorem writeCsid_pinfn (v : Word) (s : State) : (writeCsid v s).pinfn = s.pinfn := by simp [writeCsid]
@[simp] theorem writeCsid_inited (v : Word) (s : State) : (writeCsid v s).inited = s.inited := by simp [writeCsid]
@[simp] theorem writeCsid_mem (v : Word) (s : State) : (writeCsid v s).mem = s.mem := by simp [writeCsid]
@[simp] theorem writeCsid_ports_responses (v : Word) (s : State) : (writeCsid v s).ports.responses = s.ports.responses := by simp [writeCsid]
@[simp] theorem writeCsid_ports_completions (v : Word) (s : State) : (writeCsid v s).ports.completions = s.ports.completions := by simp [writeCsid]
@[simp] theorem writeCsid_params (v : Word) (s : State) : (writeCsid v s).params = s.params := by simp [writeCsid]
@[simp] theorem writeCsid_env (v : Word) (s : State) : (writeCsid v s).env = s.env := by simp [writeCsid]
@[simp] theorem writeCsid_tick (v : Word) (s : State) : (writeCsid v s).tick = s.tick := by simp [writeCsid]
@[simp] theorem writeCsid_epoch (v : Word) (s : State) : (writeCsid v s).epoch = s.epoch := by simp [writeCsid]
@[simp] theorem writeCsid_regs_csid (v : Word) (s : State) : (writeCsid v s).regs.csid = v := by simp [writeCsid]

@[simp] theorem writeCsdef_xfer (v : List Bool) (s : State) : (writeCsdef v s).xfer = s.xfer := by simp [writeCsdef]
@[simp] theorem writeCsdef_client (v : List Bool) (s : State) : (writeCsdef v s).client = s.client := by simp [writeCsdef]
@[simp] theorem writeCsdef_regs_div (v : List Bool) (s : State) : (writeCsdef v s).regs.div = s.regs.div := by simp [writeCsdef]
@[simp] theorem writeCsdef_regs_divSet (v : List Bool) (s : State) : (writeCsdef v s).regs.divSet = s.regs.divSet := by simp [writeCsdef]
@[simp] theorem writeCsdef_regs_pol (v : List Bool) (s : State) : (writeCsdef v s).regs.pol = s.regs.pol := by simp [writeCsdef]
@[simp] theorem writeCsdef_regs_pha (v : List Bool) (s : State) : (writeCsdef v s).regs.pha = s.regs.pha := by simp [writeCsdef]
@[simp] theorem writeCsdef_regs_csid (v : List Bool) (s : State) : (writeCsdef v s).regs.csid = s.regs.csid := by simp [writeCsdef]
@[simp] theorem writeCsdef_regs_csmode (v : List Bool) (s : State) : (writeCsdef v s).regs.csmode = s.regs.csmode := by simp [writeCsdef]
@[simp] theorem writeCsdef_regs_delay (v : List Bool) (s : State) : (writeCsdef v s).regs.delay = s.regs.delay := by simp [writeCsdef]
@[simp] theorem writeCsdef_regs_fmt (v : List Bool) (s : State) : (writeCsdef v s).regs.fmt = s.regs.fmt := by simp [writeCsdef]
@[simp] theorem writeCsdef_regs_rxmark (v : List Bool) (s : State) : (writeCsdef v s).regs.rxmark = s.regs.rxmark := by simp [writeCsdef]
@[simp] theorem writeCsdef_regs_fctrl (v : List Bool) (s : State) : (writeCsdef v s).regs.fctrl = s.regs.fctrl := by simp [writeCsdef]
@[simp] theorem writeCsdef_regs_ieTx (v : List Bool) (s : State) : (writeCsdef v s).regs.ieTx = s.regs.ieTx := by simp [writeCsdef]
@[simp] theorem writeCsdef_regs_ieRx (v : List Bool) (s : State) : (writeCsdef v s).regs.ieRx = s.regs.ieRx := by simp [writeCsdef]
@[simp] theorem writeCsdef_link_txf (v : List Bool) (s : State) : (writeCsdef v s).link.txf = s.link.txf := by simp [writeCsdef]
@[simp] theorem writeCsdef_link_rxf (v : List Bool) (s : State) : (writeCsdef v s).link.rxf = s.link.rxf := by simp [writeCsdef]
@[simp] theorem writeCsdef_link_sr (v : List Bool) (s : State) : (writeCsdef v s).link.sr = s.link.sr := by simp [writeCsdef]
@[simp] theorem writeCsdef_fault (v : List Bool) (s : State) : (writeCsdef v s).fault = s.fault := by simp [writeCsdef]
@[simp] theorem writeCsdef_cur (v : List Bool) (s : State) : (writeCsdef v s).cur = s.cur := by simp [writeCsdef]
@[simp] theorem writeCsdef_pinfn (v : List Bool) (s : State) : (writeCsdef v s).pinfn = s.pinfn := by simp [writeCsdef]
@[simp] theorem writeCsdef_inited (v : List Bool) (s : State) : (writeCsdef v s).inited = s.inited := by simp [writeCsdef]
@[simp] theorem writeCsdef_mem (v : List Bool) (s : State) : (writeCsdef v s).mem = s.mem := by simp [writeCsdef]
@[simp] theorem writeCsdef_ports_responses (v : List Bool) (s : State) : (writeCsdef v s).ports.responses = s.ports.responses := by simp [writeCsdef]
@[simp] theorem writeCsdef_ports_completions (v : List Bool) (s : State) : (writeCsdef v s).ports.completions = s.ports.completions := by simp [writeCsdef]
@[simp] theorem writeCsdef_params (v : List Bool) (s : State) : (writeCsdef v s).params = s.params := by simp [writeCsdef]
@[simp] theorem writeCsdef_env (v : List Bool) (s : State) : (writeCsdef v s).env = s.env := by simp [writeCsdef]
@[simp] theorem writeCsdef_tick (v : List Bool) (s : State) : (writeCsdef v s).tick = s.tick := by simp [writeCsdef]
@[simp] theorem writeCsdef_epoch (v : List Bool) (s : State) : (writeCsdef v s).epoch = s.epoch := by simp [writeCsdef]
@[simp] theorem writeCsdef_regs_csdef (v : List Bool) (s : State) : (writeCsdef v s).regs.csdef = v := by simp [writeCsdef]

@[simp] theorem writeCsAuto_xfer (s : State) : (writeCsAuto s).xfer = s.xfer := by unfold writeCsAuto; split <;> rfl
@[simp] theorem writeCsAuto_client (s : State) : (writeCsAuto s).client = s.client := by unfold writeCsAuto; split <;> rfl
@[simp] theorem writeCsAuto_regs_div (s : State) : (writeCsAuto s).regs.div = s.regs.div := by unfold writeCsAuto; split <;> rfl
@[simp] theorem writeCsAuto_regs_divSet (s : State) : (writeCsAuto s).regs.divSet = s.regs.divSet := by unfold writeCsAuto; split <;> rfl
@[simp] theorem writeCsAuto_regs_pol (s : State) : (writeCsAuto s).regs.pol = s.regs.pol := by unfold writeCsAuto; split <;> rfl
@[simp] theorem writeCsAuto_regs_pha (s : State) : (writeCsAuto s).regs.pha = s.regs.pha := by unfold writeCsAuto; split <;> rfl
@[simp] theorem writeCsAuto_regs_csid (s : State) : (writeCsAuto s).regs.csid = s.regs.csid := by unfold writeCsAuto; split <;> rfl
@[simp] theorem writeCsAuto_regs_csdef (s : State) : (writeCsAuto s).regs.csdef = s.regs.csdef := by unfold writeCsAuto; split <;> rfl
@[simp] theorem writeCsAuto_regs_delay (s : State) : (writeCsAuto s).regs.delay = s.regs.delay := by unfold writeCsAuto; split <;> rfl
@[simp] theorem writeCsAuto_regs_fmt (s : State) : (writeCsAuto s).regs.fmt = s.regs.fmt := by unfold writeCsAuto; split <;> rfl
@[simp] theorem writeCsAuto_regs_rxmark (s : State) : (writeCsAuto s).regs.rxmark = s.regs.rxmark := by unfold writeCsAuto; split <;> rfl
@[simp] theorem writeCsAuto_regs_fctrl (s : State) : (writeCsAuto s).regs.fctrl = s.regs.fctrl := by unfold writeCsAuto; split <;> rfl
@[simp] theorem writeCsAuto_regs_ieTx (s : State) : (writeCsAuto s).regs.ieTx = s.regs.ieTx := by unfold writeCsAuto; split <;> rfl
@[simp] theorem writeCsAuto_regs_ieRx (s : State) : (writeCsAuto s).regs.ieRx = s.regs.ieRx := by unfold writeCsAuto; split <;> rfl
@[simp] theorem writeCsAuto_link_txf (s : State) : (writeCsAuto s).link.txf = s.link.txf := by unfold writeCsAuto; split <;> rfl
@[simp] theorem writeCsAuto_link_rxf (s : State) : (writeCsAuto s).link.rxf = s.link.rxf := by unfold writeCsAuto; split <;> rfl
@[simp] theorem writeCsAuto_link_sr (s : State) : (writeCsAuto s).link.sr = s.link.sr := by unfold writeCsAuto; split <;> rfl
@[simp] theorem writeCsAuto_fault (s : State) : (writeCsAuto s).fault = s.fault := by unfold writeCsAuto; split <;> rfl
@[simp] theorem writeCsAuto_cur (s : State) : (writeCsAuto s).cur = s.cur := by unfold writeCsAuto; split <;> rfl
@[simp] theorem writeCsAuto_pinfn (s : State) : (writeCsAuto s).pinfn = s.pinfn := by unfold writeCsAuto; split <;> rfl
@[simp] theorem writeCsAuto_inited (s : State) : (writeCsAuto s).inited = s.inited := by unfold writeCsAuto; split <;> rfl
@[simp] theorem writeCsAuto_mem (s : State) : (writeCsAuto s).mem = s.mem := by unfold writeCsAuto; split <;> rfl
@[simp] theorem writeCsAuto_ports_responses (s : State) : (writeCsAuto s).ports.responses = s.ports.responses := by unfold writeCsAuto; split <;> rfl
@[simp] theorem writeCsAuto_ports_completions (s : State) : (writeCsAuto s).ports.completions = s.ports.completions := by unfold writeCsAuto; split <;> rfl
@[simp] theorem writeCsAuto_params (s : State) : (writeCsAuto s).params = s.params := by unfold writeCsAuto; split <;> rfl
@[simp] theorem writeCsAuto_env (s : State) : (writeCsAuto s).env = s.env := by unfold writeCsAuto; split <;> rfl
@[simp] theorem writeCsAuto_tick (s : State) : (writeCsAuto s).tick = s.tick := by unfold writeCsAuto; split <;> rfl
@[simp] theorem writeCsAuto_epoch (s : State) : (writeCsAuto s).epoch = s.epoch := by unfold writeCsAuto; split <;> rfl
@[simp] theorem writeCsAuto_regs_csmode (s : State) : (writeCsAuto s).regs.csmode = .auto := by unfold writeCsAuto; split <;> rfl

@[simp] theorem completionStart_xfer (s : State) : (completionStart s).xfer = s.xfer := by simp [completionStart]
@[simp] theorem completionStart_client (s : State) : (completionStart s).client = s.client := by simp [completionStart]
@[simp] theorem completionStart_regs_div (s : State) : (completionStart s).regs.div = s.regs.div := by simp [completionStart]
@[simp] theorem completionStart_regs_divSet (s : State) : (completionStart s).regs.divSet = s.regs.divSet := by simp [completionStart]
@[simp] theorem completionStart_regs_pol (s : State) : (completionStart s).regs.pol = s.regs.pol := by simp [completionStart]
@[simp] theorem completionStart_regs_pha (s : State) : (completionStart s).regs.pha = s.regs.pha := by simp [completionStart]
@[simp] theorem completionStart_regs_csid (s : State) : (completionStart s).regs.csid = s.regs.csid := by simp [completionStart]
@[simp] theorem completionStart_regs_csdef (s : State) : (completionStart s).regs.csdef = s.regs.csdef := by simp [completionStart]
@[simp] theorem completionStart_regs_delay (s : State) : (completionStart s).regs.delay = s.regs.delay := by simp [completionStart]
@[simp] theorem completionStart_regs_fmt (s : State) : (completionStart s).regs.fmt = s.regs.fmt := by simp [completionStart]
@[simp] theorem completionStart_regs_rxmark (s : State) : (completionStart s).regs.rxmark = s.regs.rxmark := by simp [completionStart]
@[simp] theorem completionStart_regs_fctrl (s : State) : (completionStart s).regs.fctrl = s.regs.fctrl := by simp [completionStart]
@[simp] theorem completionStart_link_txf (s : State) : (completionStart s).link.txf = s.link.txf := by simp [completionStart]
@[simp] theorem completionStart_link_rxf (s : State) : (completionStart s).link.rxf = s.link.rxf := by simp [completionStart]
@[simp] theorem completionStart_link_sr (s : State) : (completionStart s).link.sr = s.link.sr := by simp [completionStart]
@[simp] theorem completionStart_fault (s : State) : (completionStart s).fault = s.fault := by simp [completionStart]
@[simp] theorem completionStart_cur (s : State) : (completionStart s).cur = s.cur := by simp [completionStart]
@[simp] theorem completionStart_pinfn (s : State) : (completionStart s).pinfn = s.pinfn := by simp [completionStart]
@[simp] theorem completionStart_inited (s : State) : (completionStart s).inited = s.inited := by simp [completionStart]
@[simp] theorem completionStart_mem (s : State) : (completionStart s).mem = s.mem := by simp [completionStart]
@[simp] theorem completionStart_ports_responses (s : State) : (completionStart s).ports.responses = s.ports.responses := by simp [completionStart]
@[simp] theorem completionStart_ports_completions (s : State) : (completionStart s).ports.completions = s.ports.completions := by simp [completionStart]
@[simp] theorem completionStart_params (s : State) : (completionStart s).params = s.params := by simp [completionStart]
@[simp] theorem completionStart_env (s : State) : (completionStart s).env = s.env := by simp [completionStart]
@[simp] theorem completionStart_tick (s : State) : (completionStart s).tick = s.tick := by simp [completionStart]
@[simp] theorem completionStart_epoch (s : State) : (completionStart s).epoch = s.epoch := by simp [completionStart]
@[simp] theorem completionStart_regs_csmode (s : State) : (completionStart s).regs.csmode = .hold := by simp [completionStart]
@[simp] theorem completionStart_regs_ieTx (s : State) : (completionStart s).regs.ieTx = false := by simp [completionStart]
@[simp] theorem completionStart_regs_ieRx (s : State) : (completionStart s).regs.ieRx = false := by simp [completionStart]

@[simp] theorem initFields_xfer_busy (s : State) : (initFields s).xfer.busy = s.xfer.busy := by simp [initFields]
@[simp] theorem initFields_xfer_txc (s : State) : (initFields s).xfer.txc = s.xfer.txc := by simp [initFields]
@[simp] theorem initFields_xfer_rxc (s : State) : (initFields s).xfer.rxc = s.xfer.rxc := by simp [initFields]
@[simp] theorem initFields_client (s : State) : (initFields s).client = s.client := by simp [initFields]
@[simp] theorem initFields_regs_div (s : State) : (initFields s).regs.div = s.regs.div := by simp [initFields]
@[simp] theorem initFields_regs_divSet (s : State) : (initFields s).regs.divSet = s.regs.divSet := by simp [initFields]
@[simp] theorem initFields_regs_delay (s : State) : (initFields s).regs.delay = s.regs.delay := by simp [initFields]
@[simp] theorem initFields_regs_rxmark (s : State) : (initFields s).regs.rxmark = s.regs.rxmark := by simp [initFields]
@[simp] theorem initFields_regs_fctrl (s : State) : (initFields s).regs.fctrl = s.regs.fctrl := by simp [initFields]
@[simp] theorem initFields_link_txf (s : State) : (initFields s).link.txf = s.link.txf := by simp [initFields]
@[simp] theorem initFields_link_rxf (s : State) : (initFields s).link.rxf = s.link.rxf := by simp [initFields]
@[simp] theorem initFields_link_sr (s : State) : (initFields s).link.sr = s.link.sr := by simp [initFields]
@[simp] theorem initFields_fault (s : State) : (initFields s).fault = s.fault := by simp [initFields]
@[simp] theorem initFields_cur (s : State) : (initFields s).cur = s.cur := by simp [initFields]
@[simp] theorem initFields_pinfn (s : State) : (initFields s).pinfn = s.pinfn := by simp [initFields]
@[simp] theorem initFields_mem (s : State) : (initFields s).mem = s.mem := by simp [initFields]
@[simp] theorem initFields_ports_responses (s : State) : (initFields s).ports.responses = s.ports.responses := by simp [initFields]
@[simp] theorem initFields_ports_completions (s : State) : (initFields s).ports.completions = s.ports.completions := by simp [initFields]
@[simp] theorem initFields_params (s : State) : (initFields s).params = s.params := by simp [initFields]
@[simp] theorem initFields_env (s : State) : (initFields s).env = s.env := by simp [initFields]
@[simp] theorem initFields_tick (s : State) : (initFields s).tick = s.tick := by simp [initFields]
@[simp] theorem initFields_epoch (s : State) : (initFields s).epoch = s.epoch := by simp [initFields]
@[simp] theorem initFields_xfer_ioLen (s : State) : (initFields s).xfer.ioLen = 0 := by simp [initFields]
@[simp] theorem initFields_xfer_txOffset (s : State) : (initFields s).xfer.txOffset = 0 := by simp [initFields]
@[simp] theorem initFields_xfer_rxOffset (s : State) : (initFields s).xfer.rxOffset = 0 := by simp [initFields]
@[simp] theorem initFields_regs_pol (s : State) : (initFields s).regs.pol = 0 := by simp [initFields]
@[simp] theorem initFields_regs_pha (s : State) : (initFields s).regs.pha = 0 := by simp [initFields]
@[simp] theorem initFields_regs_csid (s : State) : (initFields s).regs.csid = 0 := by simp [initFields]
@[simp] theorem initFields_regs_csdef (s : State) : (initFields s).regs.csdef = List.replicate s.params.ncs true := by simp [initFields]
@[simp] theorem initFields_regs_csmode (s : State) : (initFields s).regs.csmode = .hold := by simp [initFields]
@[simp] theorem initFields_regs_fmt (s : State) : (initFields s).regs.fmt = initFormat := by simp [initFields]
@[simp] theorem initFields_regs_ieTx (s : State) : (initFields s).regs.ieTx = false := by simp [initFields]
@[simp] theorem initFields_regs_ieRx (s : State) : (initFields s).regs.ieRx = false := by simp [initFields]
@[simp] theorem initFields_inited (s : State) : (initFields s).inited = true := by simp [initFields]

@[simp] theorem drainEnd_xfer (s : State) : (drainEnd s).xfer = s.xfer := by unfold drainEnd; split <;> rfl
@[simp] theorem drainEnd_client (s : State) : (drainEnd s).client = s.client := by unfold drainEnd; split <;> rfl
@[simp] theorem drainEnd_regs_div (s : State) : (drainEnd s).regs.div = s.regs.div := by unfold drainEnd; split <;> rfl
@[simp] theorem drainEnd_regs_divSet (s : State) : (drainEnd s).regs.divSet = s.regs.divSet := by unfold drainEnd; split <;> rfl
@[simp] theorem drainEnd_regs_pol (s : State) : (drainEnd s).regs.pol = s.regs.pol := by unfold drainEnd; split <;> rfl
@[simp] theorem drainEnd_regs_pha (s : State) : (drainEnd s).regs.pha = s.regs.pha := by unfold drainEnd; split <;> rfl
@[simp] theorem drainEnd_regs_csid (s : State) : (drainEnd s).regs.csid = s.regs.csid := by unfold drainEnd; split <;> rfl
@[simp] theorem drainEnd_regs_csdef (s : State) : (drainEnd s).regs.csdef = s.regs.csdef := by unfold drainEnd; split <;> rfl
@[simp] theorem drainEnd_regs_csmode (s : State) : (drainEnd s).regs.csmode = s.regs.csmode := by unfold drainEnd; split <;> rfl
@[simp] theorem drainEnd_regs_delay (s : State) : (drainEnd s).regs.delay = s.regs.delay := by unfold drainEnd; split <;> rfl
@[simp] theorem drainEnd_regs_fmt (s : State) : (drainEnd s).regs.fmt = s.regs.fmt := by unfold drainEnd; split <;> rfl
@[simp] theorem drainEnd_regs_rxmark (s : State) : (drainEnd s).regs.rxmark = s.regs.rxmark := by unfold drainEnd; split <;> rfl
@[simp] theorem drainEnd_regs_fctrl (s : State) : (drainEnd s).regs.fctrl = s.regs.fctrl := by unfold drainEnd; split <;> rfl
@[simp] theorem drainEnd_link (s : State) : (drainEnd s).link = s.link := by unfold drainEnd; split <;> rfl
@[simp] theorem drainEnd_fault (s : State) : (drainEnd s).fault = s.fault := by unfold drainEnd; split <;> rfl
@[simp] theorem drainEnd_pinfn (s : State) : (drainEnd s).pinfn = s.pinfn := by unfold drainEnd; split <;> rfl
@[simp] theorem drainEnd_inited (s : State) : (drainEnd s).inited = s.inited := by unfold drainEnd; split <;> rfl
@[simp] theorem drainEnd_mem (s : State) : (drainEnd s).mem = s.mem := by unfold drainEnd; split <;> rfl
@[simp] theorem drainEnd_ports (s : State) : (drainEnd s).ports = s.ports := by unfold drainEnd; split <;> rfl
@[simp] theorem drainEnd_params (s : State) : (drainEnd s).params = s.params := by unfold drainEnd; split <;> rfl
@[simp] theorem drainEnd_env (s : State) : (drainEnd s).env = s.env := by unfold drainEnd; split <;> rfl
@[simp] theorem drainEnd_tick (s : State) : (drainEnd s).tick = s.tick := by unfold drainEnd; split <;> rfl
@[simp] theorem drainEnd_epoch (s : State) : (drainEnd s).epoch = s.epoch := by unfold drainEnd; split <;> rfl

@[simp] theorem assertLine_xfer (s : State) : (assertLine s).xfer = s.xfer := by unfold assertLine; split <;> rfl
@[simp] theorem assertLine_client (s : State) : (assertLine s).client = s.client := by unfold assertLine; split <;> rfl
@[simp] theorem assertLine_regs (s : State) : (assertLine s).regs = s.regs := by unfold assertLine; split <;> rfl
@[simp] theorem assertLine_link_txf (s : State) : (assertLine s).link.txf = s.link.txf := by unfold assertLine; split <;> rfl
@[simp] theorem assertLine_link_rxf (s : State) : (assertLine s).link.rxf = s.link.rxf := by unfold assertLine; split <;> rfl
@[simp] theorem assertLine_link_sr (s : State) : (assertLine s).link.sr = s.link.sr := by unfold assertLine; split <;> rfl
@[simp] theorem assertLine_fault (s : State) : (assertLine s).fault = s.fault := by unfold assertLine; split <;> rfl
@[simp] theorem assertLine_cur (s : State) : (assertLine s).cur = s.cur := by unfold assertLine; split <;> rfl
@[simp] theorem assertLine_pinfn (s : State) : (assertLine s).pinfn = s.pinfn := by unfold assertLine; split <;> rfl
@[simp] theorem assertLine_inited (s : State) : (assertLine s).inited = s.inited := by unfold assertLine; split <;> rfl
@[simp] theorem assertLine_mem (s : State) : (assertLine s).mem = s.mem := by unfold assertLine; split <;> rfl
@[simp] theorem assertLine_ports_responses (s : State) : (assertLine s).ports.responses = s.ports.responses := by unfold assertLine; split <;> rfl
@[simp] theorem assertLine_ports_completions (s : State) : (assertLine s).ports.completions = s.ports.completions := by unfold assertLine; split <;> rfl
@[simp] theorem assertLine_params (s : State) : (assertLine s).params = s.params := by unfold assertLine; split <;> rfl
@[simp] theorem assertLine_env (s : State) : (assertLine s).env = s.env := by unfold assertLine; split <;> rfl
@[simp] theorem assertLine_tick (s : State) : (assertLine s).tick = s.tick := by unfold assertLine; split <;> rfl
@[simp] theorem assertLine_epoch (s : State) : (assertLine s).epoch = s.epoch := by unfold assertLine; split <;> rfl

@[simp] theorem releaseIfAuto_xfer (s : State) : (releaseIfAuto s).xfer = s.xfer := by unfold releaseIfAuto; split <;> rfl
@[simp] theorem releaseIfAuto_client (s : State) : (releaseIfAuto s).client = s.client := by unfold releaseIfAuto; split <;> rfl
@[simp] theorem releaseIfAuto_regs (s : State) : (releaseIfAuto s).regs = s.regs := by unfold releaseIfAuto; split <;> rfl
@[simp] theorem releaseIfAuto_link_txf (s : State) : (releaseIfAuto s).link.txf = s.link.txf := by unfold releaseIfAuto; split <;> rfl
@[simp] theorem releaseIfAuto_link_rxf (s : State) : (releaseIfAuto s).link.rxf = s.link.rxf := by unfold releaseIfAuto; split <;> rfl
@[simp] theorem releaseIfAuto_link_sr (s : State) : (releaseIfAuto s).link.sr = s.link.sr := by unfold releaseIfAuto; split <;> rfl
@[simp] theorem releaseIfAuto_fault (s : State) : (releaseIfAuto s).fault = s.fault := by unfold releaseIfAuto; split <;> rfl
@[simp] theorem releaseIfAuto_cur (s : State) : (releaseIfAuto s).cur = s.cur := by unfold releaseIfAuto; split <;> rfl
@[simp] theorem releaseIfAuto_pinfn (s : State) : (releaseIfAuto s).pinfn = s.pinfn := by unfold releaseIfAuto; split <;> rfl
@[simp] theorem releaseIfAuto_inited (s : State) : (releaseIfAuto s).inited = s.inited := by unfold releaseIfAuto; split <;> rfl
@[simp] theorem releaseIfAuto_mem (s : State) : (releaseIfAuto s).mem = s.mem := by unfold releaseIfAuto; split <;> rfl
@[simp] theorem releaseIfAuto_ports_responses (s : State) : (releaseIfAuto s).ports.responses = s.ports.responses := by unfold releaseIfAuto; split <;> rfl
@[simp] theorem releaseIfAuto_ports_completions (s : State) : (releaseIfAuto s).ports.completions = s.ports.completions := by unfold releaseIfAuto; split <;> rfl
@[simp] theorem releaseIfAuto_params (s : State) : (releaseIfAuto s).params = s.params := by unfold releaseIfAuto; split <;> rfl
@[simp] theorem releaseIfAuto_env (s : State) : (releaseIfAuto s).env = s.env := by unfold releaseIfAuto; split <;> rfl
@[simp] theorem releaseIfAuto_tick (s : State) : (releaseIfAuto s).tick = s.tick := by unfold releaseIfAuto; split <;> rfl
@[simp] theorem releaseIfAuto_epoch (s : State) : (releaseIfAuto s).epoch = s.epoch := by unfold releaseIfAuto; split <;> rfl

@[simp] theorem shiftOut_xfer (s : State) : (shiftOut s).xfer = s.xfer := by unfold shiftOut; split <;> simp
@[simp] theorem shiftOut_client (s : State) : (shiftOut s).client = s.client := by unfold shiftOut; split <;> simp
@[simp] theorem shiftOut_regs (s : State) : (shiftOut s).regs = s.regs := by unfold shiftOut; split <;> simp
@[simp] theorem shiftOut_link_rxf (s : State) : (shiftOut s).link.rxf = s.link.rxf := by unfold shiftOut; split <;> simp
@[simp] theorem shiftOut_fault (s : State) : (shiftOut s).fault = s.fault := by unfold shiftOut; split <;> simp
@[simp] theorem shiftOut_cur (s : State) : (shiftOut s).cur = s.cur := by unfold shiftOut; split <;> simp
@[simp] theorem shiftOut_pinfn (s : State) : (shiftOut s).pinfn = s.pinfn := by unfold shiftOut; split <;> simp
@[simp] theorem shiftOut_inited (s : State) : (shiftOut s).inited = s.inited := by unfold shiftOut; split <;> simp
@[simp] theorem shiftOut_mem (s : State) : (shiftOut s).mem = s.mem := by unfold shiftOut; split <;> simp
@[simp] theorem shiftOut_ports_responses (s : State) : (shiftOut s).ports.responses = s.ports.responses := by unfold shiftOut; split <;> simp
@[simp] theorem shiftOut_ports_completions (s : State) : (shiftOut s).ports.completions = s.ports.completions := by unfold shiftOut; split <;> simp
@[simp] theorem shiftOut_params (s : State) : (shiftOut s).params = s.params := by unfold shiftOut; split <;> simp
@[simp] theorem shiftOut_env (s : State) : (shiftOut s).env = s.env := by unfold shiftOut; split <;> simp
@[simp] theorem shiftOut_tick (s : State) : (shiftOut s).tick = s.tick := by unfold shiftOut; split <;> simp
@[simp] theorem shiftOut_epoch (s : State) : (shiftOut s).epoch = s.epoch := by unfold shiftOut; split <;> simp

@[simp] theorem shiftIn_xfer (p : Byte) (s : State) : (shiftIn p s).xfer = s.xfer := by unfold shiftIn; split <;> (try split) <;> simp
@[simp] theorem shiftIn_client (p : Byte) (s : State) : (shiftIn p s).client = s.client := by unfold shiftIn; split <;> (try split) <;> simp
@[simp] theorem shiftIn_regs (p : Byte) (s : State) : (shiftIn p s).regs = s.regs := by unfold shiftIn; split <;> (try split) <;> simp
@[simp] theorem shiftIn_link_txf (p : Byte) (s : State) : (shiftIn p s).link.txf = s.link.txf := by unfold shiftIn; split <;> (try split) <;> simp
@[simp] theorem shiftIn_cur (p : Byte) (s : State) : (shiftIn p s).cur = s.cur := by unfold shiftIn; split <;> (try split) <;> simp
@[simp] theorem shiftIn_pinfn (p : Byte) (s : State) : (shiftIn p s).pinfn = s.pinfn := by unfold shiftIn; split <;> (try split) <;> simp
@[simp] theorem shiftIn_inited (p : Byte) (s : State) : (shiftIn p s).inited = s.inited := by unfold shiftIn; split <;> (try split) <;> simp
@[simp] theorem shiftIn_mem (p : Byte) (s : State) : (shiftIn p s).mem = s.mem := by unfold shiftIn; split <;> (try split) <;> simp
@[simp] theorem shiftIn_ports_responses (p : Byte) (s : State) : (shiftIn p s).ports.responses = s.ports.responses := by unfold shiftIn; split <;> (try split) <;> simp
@[simp] theorem shiftIn_ports_completions (p : Byte) (s : State) : (shiftIn p s).ports.completions = s.ports.completions := by unfold shiftIn; split <;> (try split) <;> simp
@[simp] theorem shiftIn_params (p : Byte) (s : State) : (shiftIn p s).params = s.params := by unfold shiftIn; split <;> (try split) <;> simp
@[simp] theorem shiftIn_env (p : Byte) (s : State) : (shiftIn p s).env = s.env := by unfold shiftIn; split <;> (try split) <;> simp
@[simp] theorem shiftIn_tick (p : Byte) (s : State) : (shiftIn p s).tick = s.tick := by unfold shiftIn; split <;> (try split) <;> simp
@[simp] theorem shiftIn_epoch (p : Byte) (s : State) : (shiftIn p s).epoch = s.epoch := by unfold shiftIn; split <;> (try split) <;> simp

end Sys2Proof.Machine
end

