-- ==== Sys2Proof/Laws/Ops.lean ====
section
/-! SUPPORT. One lemma per shared operation: everything it can do. -/

namespace Sys2Proof.Machine

@[simp] theorem onNext_next (f : State → State) (s : State) : onNext f (.next s) = .next (f s) := rfl

/-- `onNext` answers a next state exactly through one. -/
theorem onNext_eq_next {f : State → State} {o : Result} {t : State} :
    onNext f o = .next t ↔ ∃ s, o = .next s ∧ t = f s := by
  cases o with
  | next s => simp [onNext, eq_comm]
  | fault r => simp [onNext]
  | refused r => simp [onNext]

/-- A step answers a next state exactly when the move does. -/
theorem step_eq_next {s t : State} : step s = .next t ↔ ∃ u, nextMove s = .next u ∧ t = countStep u :=
  onNext_eq_next

/-- Before INIT: illegal; after it: the operation (R43). -/
theorem whenInited_cases (s : State) (k : Result) :
    (s.inited = true ∧ whenInited s k = k) ∨ (s.inited = false ∧ whenInited s k = illegal s) := by
  cases h : s.inited <;> simp [whenInited, h]

/-- Busy: BUSY; idle: the operation (R221). -/
theorem whenIdle_cases (s : State) (k : Result) :
    (s.xfer.busy = false ∧ whenIdle s k = k) ∨
      (s.xfer.busy = true ∧ whenIdle s k = .next (respond .busy 0 s)) := by
  cases h : s.xfer.busy <;> simp [whenIdle, h]

/-- A command of the Caller is taken at `NONE`; else the Sequencer steps (R12, R13). -/
theorem whenReady_cases (s : State) (k : Result) :
    (s.cur = .none ∧ whenReady s k = k) ∨ (s.cur ≠ .none ∧ whenReady s k = microStep s) := by
  by_cases h : s.cur = .none <;> simp [whenReady, h]

/-- The access happens iff the address is one of BUF (R71). -/
theorem atAddress_eq_next {base off : Word} {k : Nat → Result} {t : State} :
    atAddress base off k = .next t ↔
      base.toNat + off.toNat < Config.bufSize ∧ k (base.toNat + off.toNat) = .next t := by
  unfold atAddress
  split <;> simp [*]

theorem atAddress_of_lt {base off : Word} (k : Nat → Result) (h : base.toNat + off.toNat < Config.bufSize) :
    atAddress base off k = k (base.toNat + off.toNat) := if_pos h

/-- The first fault sticks (R226). -/
@[simp] theorem raiseHardFault_fault (f : HardFault) (s : State) :
    (raiseHardFault f s).fault = some (s.fault.getD f) := by
  unfold raiseHardFault
  split <;> simp_all

/-- With no fault so far a hard fault writes its code and nothing else (R226). -/
theorem raiseHardFault_of_none {s : State} (f : HardFault) (h : s.fault = none) :
    raiseHardFault f s = { s with fault := some f } := by
  simp [raiseHardFault, h]

/-- A priming push sequence that fits appends the bytes (R206). -/
theorem pushBytes_fits {bs : List Byte} {s : State}
    (h : s.link.txf.length + bs.length ≤ Config.fifoCapacity) :
    pushBytes bs s = .ok { s with link.txf := s.link.txf ++ bs } := by
  induction bs generalizing s with
  | nil => simp [pushBytes]
  | cons b bs ih =>
    simp only [List.length_cons] at h
    have hf : txFull s = false := by simp [txFull]; omega
    rw [pushBytes, hf]
    rw [if_neg (by simp), ih (by simp [pushTx]; omega)]
    simp [pushTx]

/-- One that does not fit stops at the full FIFO, the bytes pushed so far kept (R226, R231). -/
theorem pushBytes_overflows {bs : List Byte} {s : State}
    (hc : s.link.txf.length ≤ Config.fifoCapacity)
    (h : Config.fifoCapacity < s.link.txf.length + bs.length) :
    pushBytes bs s =
      .error { s with
        link.txf := s.link.txf ++ bs.take (Config.fifoCapacity - s.link.txf.length) } := by
  induction bs generalizing s with
  | nil => simp at h; omega
  | cons b bs ih =>
    simp only [List.length_cons] at h
    by_cases hf : s.link.txf.length = Config.fifoCapacity
    · simp [pushBytes, txFull, hf]
    · have hf' : txFull s = false := by simp [txFull, hf]
      rw [pushBytes, hf', if_neg (by simp), ih (by simp [pushTx]; omega) (by simp [pushTx]; omega)]
      have : Config.fifoCapacity - s.link.txf.length =
          Config.fifoCapacity - (s.link.txf.length + 1) + 1 := by omega
      simp [pushTx, this]

/-- Writing `csid` or `csdef` with the line released disturbs nothing (R211 (e)). -/
theorem disturbLine_of_released {k : Nat} {s : State} (h : s.link.csActive = false) : disturbLine k s = s := by
  simp [disturbLine, h]

/-- Under an asserted line: the draw decides (R211 (e)). -/
theorem disturbLine_cases (k : Nat) (s : State) :
    disturbLine k s = s ∨
      (s.link.csActive = true ∧
        disturbLine k s =
          { s with link.csActive := false, ports.wire := s.ports.wire ++ [.csDeassert s.regs.csid] }) := by
  unfold disturbLine
  split
  · exact .inr ⟨by simp_all, rfl⟩
  · exact .inl rfl

/-- INIT's two writes of the chip-select fields release the line at most once (R130, R211 (e)). -/
theorem initFields_line (s : State) :
    ((initFields s).link.csActive = s.link.csActive ∧ (initFields s).ports.wire = s.ports.wire) ∨
      (s.link.csActive = true ∧ (initFields s).link.csActive = false ∧
        (initFields s).ports.wire = s.ports.wire ++ [.csDeassert s.regs.csid]) := by
  cases h : s.link.csActive
  · simp [initFields, writeCsdef, writeCsid, disturbLine, disarmBoth, zeroCounters, writeCsHold, h]
  · cases h0 : Config.drawCs s.tick 0
    · simp [initFields, writeCsdef, writeCsid, disturbLine, disarmBoth, zeroCounters, writeCsHold, emitWire, h, h0]
    · cases h1 : Config.drawCs s.tick 1 <;>
        simp [initFields, writeCsdef, writeCsid, disturbLine, disarmBoth, zeroCounters, writeCsHold, emitWire, h, h0, h1]

/-- `csmode <- AUTO` releases the line at once iff no frame is in flight (R211 (c)). -/
theorem writeCsAuto_line (s : State) :
    (s.link.csActive = true ∧ s.link.sr = none ∧ (writeCsAuto s).link.csActive = false ∧
        (writeCsAuto s).ports.wire = s.ports.wire ++ [.csDeassert s.regs.csid]) ∨
      ((s.link.csActive = false ∨ s.link.sr ≠ none) ∧ (writeCsAuto s).link.csActive = s.link.csActive ∧
        (writeCsAuto s).ports.wire = s.ports.wire) := by
  cases h : s.link.csActive <;> cases h2 : s.link.sr <;> simp [writeCsAuto, emitWire, h, h2]

/-- The bytes and the FIFOs after `S1` (R209). -/
theorem shiftOut_link (s : State) :
    (∃ b rest, s.link.sr = none ∧ s.link.txf = b :: rest ∧
        (shiftOut s).link.txf = rest ∧ (shiftOut s).link.sr = some b ∧ (shiftOut s).link.csActive = true) ∨
      shiftOut s = s := by
  unfold shiftOut
  split
  · next b rest h1 h2 =>
    refine .inl ⟨b, rest, h1, h2, by simp, by simp, ?_⟩
    simp only [assertLine]
    split <;> simp_all [emitWire]
  · exact .inr rfl
  · exact .inr rfl

/-- The bytes and the FIFOs after `S2` (R210). -/
theorem shiftIn_cases (p : Byte) (s : State) :
    (s.link.sr = none ∧ shiftIn p s = s) ∨
      ((∃ b, s.link.sr = some b) ∧ s.link.rxf.length = Config.fifoCapacity ∧
        shiftIn p s = raiseHardFault .rxOverrun s) ∨
      (∃ b, s.link.sr = some b ∧ s.link.rxf.length ≠ Config.fifoCapacity ∧
        (shiftIn p s).link.rxf = s.link.rxf ++ [peerAnswer s b p] ∧
        (shiftIn p s).link.sr = none ∧ (shiftIn p s).fault = s.fault) := by
  unfold shiftIn
  split
  · exact .inl ⟨by assumption, rfl⟩
  · next b hb =>
    split
    · next hf => exact .inr (.inl ⟨⟨b, hb⟩, by simpa [rxFull] using hf, rfl⟩)
    · next hf => exact .inr (.inr ⟨b, hb, by simpa [rxFull] using hf, by simp [emitWire], by simp [emitWire], by simp [emitWire]⟩)

/-- The step `Issue` of a decoded command is its meaning (R12 (a)). -/
theorem issueCmd_of_ok {c : CmdWord} {i : Instr} (s : State) (h : decode c = .ok i) : issueCmd c s = exec i s := by
  simp [issueCmd, h]

theorem issueCmd_of_illegal {c : CmdWord} {why : IllegalWord} (s : State) (h : decode c = .illegal why) :
    issueCmd c s = .next (respond .illegal 0 s) := by
  simp [issueCmd, h, illegal]

end Sys2Proof.Machine
end

