-- ==== Sys2Proof/Laws/PerInstr.lean ====
section
/-! SUPPORT. A law about every instruction, one lemma per constructor: the header an operation is encoded with is its row
of the opcode table (`30_encoding.md` R104). -/

namespace Sys2Proof.Laws.HeaderRow

open Sys2Proof

/-- The header word of `i`, under the mask of its opcode-table row, is the row's match. -/
def Statement (i : Instr) : Prop := (encodeCmd i).w0 &&& opMask (opOf i) = opMatch (opOf i)

/-- The header with `rxp = 0` is its row's match. -/
theorem header_row (o : Op) : headerWord o false &&& opMask o = opMatch o := by cases o <;> decide

/-- SUBMIT's row does not look at `rxp`. -/
theorem header_row_rxp : headerWord .submit true &&& opMask .submit = opMatch .submit := by decide

theorem init : Statement .init := header_row .init
theorem setclient (id : Word) : Statement (.setclient id) := header_row .setclient
theorem isbusy : Statement .isbusy := header_row .isbusy
theorem setcs (id : Word) : Statement (.setcs id) := header_row .setcs
theorem setrate (hz : Word) : Statement (.setrate hz) := header_row .setrate
theorem getrate : Statement .getrate := header_row .getrate
theorem setpol (level : BitVec 1) : Statement (.setpol level) := header_row .setpol
theorem getpol : Statement .getpol := header_row .getpol
theorem setpha (edge : BitVec 1) : Statement (.setpha edge) := header_row .setpha
theorem getpha : Statement .getpha := header_row .getpha
theorem holdlow : Statement .holdlow := header_row .holdlow
theorem rellow : Statement .rellow := header_row .rellow
theorem wrbyte (v : Byte) : Statement (.wrbyte v) := header_row .wrbyte
theorem rdbyte : Statement .rdbyte := header_row .rdbyte
theorem rwbyte (v : Byte) : Statement (.rwbyte v) := header_row .rwbyte

theorem submit (n : Word) (w : Handle) (r : Option Handle) : Statement (.submit n w r) := by
  cases r
  · exact header_row .submit
  · exact header_row_rxp

theorem service : Statement .service := header_row .service
theorem gpioinit : Statement .gpioinit := header_row .gpioinit

end Sys2Proof.Laws.HeaderRow
end

