-- ==== Sys2Proof/Tests/Slice0.lean ====
section
/-! SUPPORT. Tests, their expected results taken from the vectors and programs of `95_test_vectors.md`, and one witness
theorem for the hypotheses of every statement that has hypotheses. -/

namespace Sys2Proof.Tests

open Sys2Proof Sys2Proof.Machine

/-! ## States -/

/-- `p` holds of the next state; false of a stop. -/
def reached (o : Result) (p : State → Bool) : Bool :=
  match o with
  | .next s => p s
  | .fault _ => false
  | .refused _ => false

/-- The last response on the port. -/
def lastResponse (s : State) : Option Response := s.ports.responses.getLast?

/-- One line, a loopback peer. -/
def loopParams : Params := { moreLines := 0, loopback := true }

/-- After reset. -/
def fresh : State := State.resetWith loopParams

/-- The "ready state" of `95_test_vectors.md`: `RESET; INIT; SETCLIENT id=1`, the responses left out. -/
def ready : State :=
  { fresh with
    client := some 1
    inited := true
    regs := { Regs.reset loopParams with csdef := [true], csmode := .hold, fmt := initFormat } }

/-- The ten bytes A0 to A9 of program P2. -/
def tenBytes : Memory :=
  [(0x100, 0xA0), (0x101, 0xA1), (0x102, 0xA2), (0x103, 0xA3), (0x104, 0xA4), (0x105, 0xA5), (0x106, 0xA6),
   (0x107, 0xA7), (0x108, 0xA8), (0x109, 0xA9)]

/-- The bytes of the first burst of P2. -/
def firstSeven : List Byte := [0xA0, 0xA1, 0xA2, 0xA3, 0xA4, 0xA5, 0xA6]

/-- P2 after step 1: SUBMIT n=10, w=0x100:10, r=0x200:10. -/
def sending : State :=
  { ready with
    xfer := { busy := true, txc := some ⟨0x100, 10⟩, rxc := some ⟨0x200, 10⟩, ioLen := 10, txOffset := 7,
              rxOffset := 0 }
    regs := { ready.regs with rxmark := 6, ieRx := true, ieTx := true }
    link := { ready.link with txf := firstSeven }
    mem := tenBytes }

/-- P2 after step 2: the first burst is echoed. -/
def echoed : State :=
  { sending with link := { txf := [], rxf := firstSeven, sr := none, csActive := true } }

/-- BUF of P2 after the first drain. -/
def halfCopied : Memory :=
  tenBytes ++
    [(0x200, 0xA0), (0x201, 0xA1), (0x202, 0xA2), (0x203, 0xA3), (0x204, 0xA4), (0x205, 0xA5), (0x206, 0xA6)]

/-- P2 after step 4: the second burst is echoed. -/
def lastEchoed : State :=
  { sending with
    xfer := { sending.xfer with txOffset := 10, rxOffset := 7 }
    regs := { sending.regs with rxmark := 2, ieTx := false }
    link := { txf := [], rxf := [0xA7, 0xA8, 0xA9], sr := none, csActive := true }
    mem := halfCopied }

/-- A one-byte transfer without a read buffer, its byte drained: the next micro-step is the completion check. -/
def finishing : State :=
  { ready with
    xfer := { busy := true, txc := some ⟨0x100, 1⟩, rxc := none, ioLen := 1, txOffset := 1, rxOffset := 1 }
    regs := { ready.regs with ieRx := true }
    link := { ready.link with csActive := true }
    cur := .sFin }

/-- `s` with the command word of `i` on the port. -/
def presented (i : Instr) (s : State) : State := { s with env := [.issue (encode i)] }

/-- `s` with one move to come. -/
def moved (m : Move) (s : State) : State := { s with env := [m] }

/-! ## Well-formedness: one ill-formed SUBMIT for each check (V-S12, V-S13, R171) -/

theorem test_wf_refuses_wrapping_write_handle : Instr.wf (.submit 4 ⟨0xFFFFFFFE, 4⟩ none) = false := by decide

theorem test_wf_refuses_wrapping_read_handle :
    Instr.wf (.submit 4 ⟨0x100, 4⟩ (some ⟨0xFFFFFFFE, 4⟩)) = false := by decide

theorem test_wf_refuses_overlap : Instr.wf (.submit 4 ⟨0x100, 4⟩ (some ⟨0x102, 4⟩)) = false := by decide

theorem test_wf_accepts_adjacent : Instr.wf (.submit 4 ⟨0x100, 4⟩ (some ⟨0x104, 4⟩)) = true := by decide

theorem test_wf_accepts_top_of_buf : Instr.wf (.submit 4 ⟨0xFFFFFFFC, 4⟩ none) = true := by decide

/-! ## Decoding: for every constructor a word written out from R101 to R104 -/

theorem test_decode_init : decode (packCmd ⟨0x00000000, 0, 0, 0, 0, 0⟩) = .ok .init := by decide

theorem test_decode_setclient : decode (packCmd ⟨0x00000001, 0x00000001, 0, 0, 0, 0⟩) = .ok (.setclient 1) := by
  decide

/-- V-E17: unused operand words are ignored. -/
theorem test_decode_isbusy : decode (packCmd ⟨0x00000002, 0x12345678, 0, 0, 0, 0⟩) = .ok .isbusy := by decide

theorem test_decode_setcs : decode (packCmd ⟨0x00000003, 0x80000002, 0, 0, 0, 0⟩) = .ok (.setcs 0x80000002) := by
  decide

theorem test_decode_setrate : decode (packCmd ⟨0x00000004, 0x000F4240, 0, 0, 0, 0⟩) = .ok (.setrate 1000000) := by
  decide

theorem test_decode_getrate : decode (packCmd ⟨0x00000005, 0, 0, 0, 0, 0⟩) = .ok .getrate := by decide

theorem test_decode_setpol : decode (packCmd ⟨0x00000006, 0x00000001, 0, 0, 0, 0⟩) = .ok (.setpol 1) := by decide

theorem test_decode_getpol : decode (packCmd ⟨0x00000007, 0, 0, 0, 0, 0⟩) = .ok .getpol := by decide

theorem test_decode_setpha : decode (packCmd ⟨0x00000008, 0x00000001, 0, 0, 0, 0⟩) = .ok (.setpha 1) := by decide

theorem test_decode_getpha : decode (packCmd ⟨0x00000009, 0, 0, 0, 0, 0⟩) = .ok .getpha := by decide

theorem test_decode_holdlow : decode (packCmd ⟨0x0000000A, 0, 0, 0, 0, 0⟩) = .ok .holdlow := by decide

theorem test_decode_rellow : decode (packCmd ⟨0x0000000B, 0, 0, 0, 0, 0⟩) = .ok .rellow := by decide

theorem test_decode_wrbyte : decode (packCmd ⟨0x0000000C, 0x0000005A, 0, 0, 0, 0⟩) = .ok (.wrbyte 0x5A) := by decide

theorem test_decode_rdbyte : decode (packCmd ⟨0x0000000D, 0, 0, 0, 0, 0⟩) = .ok .rdbyte := by decide

theorem test_decode_rwbyte : decode (packCmd ⟨0x0000000E, 0x0000009F, 0, 0, 0, 0⟩) = .ok (.rwbyte 0x9F) := by decide

theorem test_decode_submit_no_read :
    decode (packCmd ⟨0x00000010, 0x00000003, 0x00000100, 0x00000003, 0xDEADBEEF, 0xFFFFFFFF⟩) =
      .ok (.submit 3 ⟨0x100, 3⟩ none) := by decide

theorem test_decode_submit_read :
    decode (packCmd ⟨0x00000110, 0x00000012, 0x00001000, 0x00000014, 0x00002000, 0x0000000F⟩) =
      .ok (.submit 18 ⟨0x1000, 20⟩ (some ⟨0x2000, 15⟩)) := by decide

theorem test_decode_service : decode (packCmd ⟨0x00000020, 0, 0, 0, 0, 0⟩) = .ok .service := by decide

theorem test_decode_gpioinit : decode (packCmd ⟨0x00000030, 0, 0, 0, 0, 0⟩) = .ok .gpioinit := by decide

/-- The command word itself: `W0` in the low bits, `W5` in the high ones (R101), program P2 step 1. -/
theorem test_decode_word_layout :
    decode 0x0000000A000002000000000A000001000000000A00000110 =
      .ok (.submit 10 ⟨0x100, 10⟩ (some ⟨0x200, 10⟩)) := by decide

/-- V-E10, V-E15. -/
theorem test_decode_reserved_opcodes :
    decode (packCmd ⟨0x0000000F, 0, 0, 0, 0, 0⟩) = .illegal .unknownOpcode ∧
      decode (packCmd ⟨0x00000011, 0, 0, 0, 0, 0⟩) = .illegal .unknownOpcode := by decide

/-- V-E11, V-E16. -/
theorem test_decode_reserved_header :
    decode (packCmd ⟨0x00000200, 0, 0, 0, 0, 0⟩) = .illegal .reservedHeader ∧
      decode (packCmd ⟨0x80000000, 0, 0, 0, 0, 0⟩) = .illegal .reservedHeader := by decide

/-- V-E12. -/
theorem test_decode_rxp_without_submit :
    decode (packCmd ⟨0x00000100, 0, 0, 0, 0, 0⟩) = .illegal .rxpWithoutSubmit := by decide

/-- V-E13, V-E14. -/
theorem test_decode_operand_bits :
    decode (packCmd ⟨0x00000006, 0x00000002, 0, 0, 0, 0⟩) = .illegal .operandBits ∧
      decode (packCmd ⟨0x0000000E, 0x00000100, 0, 0, 0, 0⟩) = .illegal .operandBits := by decide

/-- R110: the assembled words of its example. -/
theorem test_encode_submit :
    encodeCmd (.submit 10 ⟨0x100, 10⟩ (some ⟨0x200, 10⟩)) =
      ⟨0x00000110, 0x0000000A, 0x00000100, 0x0000000A, 0x00000200, 0x0000000A⟩ := by decide

/-- The placed opcode-table words of two rows run on the next step after reset: SETCLIENT with a zero operand, and GETPOL,
which is illegal before INIT (V-C4). -/
theorem test_placed_setclient :
    reached (step (State.reset.withFetchWord 32 0x01)) (fun s => s.client = some 0) = true := by decide

theorem test_placed_getpol :
    reached (step (State.reset.withFetchWord 32 0x07)) (fun s => lastResponse s = some ⟨.illegal, 0⟩) = true := by
  decide

/-! ## Memory -/

theorem test_memory_wf_at_reset : Memory.wf State.reset.mem = true := by decide

theorem test_memory_write_keeps_order :
    memWrite [(2, 5), (7, 6)] 4 9 = [(2, 5), (4, 9), (7, 6)] ∧ memWrite [(2, 5), (7, 6)] 7 0 = [(2, 5)] := by decide

/-! ## Control operations (V-C, V-R, V-G) -/

/-- V-C1. -/
theorem test_init :
    reached (exec .init fresh) (fun s =>
      s.inited && s.regs.fmt = initFormat && s.regs.csmode = .hold && s.regs.csdef = [true] && !s.xfer.busy &&
        lastResponse s = some ⟨.ok, 0⟩) = true := by decide

/-- V-C17: counters 0, both sources disarmed, `busy` and the cells untouched. -/
theorem test_init_while_busy :
    reached (exec .init sending) (fun s =>
      s.xfer = { sending.xfer with ioLen := 0, txOffset := 0 } && s.link = sending.link && !irq s) = true := by decide

/-- V-C5. -/
theorem test_setclient : reached (exec (.setclient 9) fresh) (fun s => s.client = some 9) = true := by decide

/-- V-C6. -/
theorem test_setclient_twice :
    reached (exec (.setclient 2) ready) (fun s => s.client = some 1 && lastResponse s = some ⟨.illegal, 0⟩) = true := by
  decide

/-- V-C3. -/
theorem test_isbusy_before_init :
    reached (exec .isbusy fresh) (fun s => lastResponse s = some ⟨.ok, 0⟩) = true := by decide

theorem test_isbusy_busy :
    reached (exec .isbusy sending) (fun s => lastResponse s = some ⟨.ok, 1⟩) = true := by decide

/-- V-C12. -/
theorem test_setcs_while_busy :
    reached (exec (.setcs 2) sending) (fun s =>
      s.regs.csid = 2 && s.xfer = sending.xfer && lastResponse s = some ⟨.ok, 0⟩) = true := by decide

/-- V-R6. -/
theorem test_setrate :
    reached (exec (.setrate 3000000) ready) (fun s =>
      s.regs.div = 1 && lastResponse s = some ⟨.ok, 3000000⟩) = true := by decide

/-- V-R11: INVAL before BUSY. -/
theorem test_setrate_out_of_range_busy :
    reached (exec (.setrate 1953) sending) (fun s => lastResponse s = some ⟨.inval, 0⟩) = true := by decide

/-- V-R17: `div + 1` does not wrap. -/
theorem test_getrate_all_ones :
    reached (exec .getrate { ready with regs := { ready.regs with div := 4095, divSet := true } })
      (fun s => lastResponse s = some ⟨.ok, 1953⟩) = true := by decide

/-- V-R2. -/
theorem test_getrate_lowest :
    reached (exec .getrate { ready with regs := { ready.regs with div := 4093, divSet := true } })
      (fun s => lastResponse s = some ⟨.ok, 1954⟩) = true := by decide

/-- V-C7. -/
theorem test_setpol : reached (exec (.setpol 1) ready) (fun s => s.regs.pol = 1 && s.regs.pha = 0) = true := by decide

/-- V-C9. -/
theorem test_setpol_busy :
    reached (exec (.setpol 1) sending) (fun s => s.regs.pol = 0 && lastResponse s = some ⟨.busy, 0⟩) = true := by decide

/-- V-C10. -/
theorem test_getpol_busy :
    reached (exec .getpol { sending with regs := { sending.regs with pol := 1 } })
      (fun s => lastResponse s = some ⟨.ok, 1⟩) = true := by decide

/-- V-C8. -/
theorem test_setpha : reached (exec (.setpha 1) ready) (fun s => s.regs.pha = 1 && s.regs.pol = 0) = true := by decide

theorem test_getpha :
    reached (exec .getpha { ready with regs := { ready.regs with pha := 1 } })
      (fun s => lastResponse s = some ⟨.ok, 1⟩) = true := by decide

/-- V-C16. -/
theorem test_holdlow :
    reached (exec .holdlow { ready with regs := { ready.regs with csmode := .auto } })
      (fun s => s.regs.csmode = .hold && !s.link.csActive) = true := by decide

/-- V-C14. -/
theorem test_rellow :
    reached (exec .rellow { ready with link := { ready.link with csActive := true } })
      (fun s => s.regs.csmode = .auto && !s.link.csActive && s.ports.wire = [.csDeassert 0]) = true := by decide

/-- V-C15: a frame in flight keeps the line. -/
theorem test_rellow_in_flight :
    reached (exec .rellow { ready with link := { ready.link with csActive := true, sr := some 0x42 } })
      (fun s => s.regs.csmode = .auto && s.link.csActive && s.ports.wire = []) = true := by decide

/-- V-G1. -/
theorem test_gpioinit :
    reached (exec .gpioinit fresh) (fun s => s.pinfn = 15 && lastResponse s = some ⟨.ok, 0⟩) = true := by decide

/-- R211: the asserted line is the complement of its default level. -/
theorem test_line_level :
    lineLevel ready 0 = some true ∧ lineLevel echoed 0 = some false ∧ lineLevel echoed 1 = none := by decide

/-! ## Byte operations (V-B) -/

/-- P5 step 3. -/
theorem test_wrbyte :
    reached (exec (.wrbyte 0x5A) ready) (fun s => s.link.txf = [0x5A] && s.cur = .bWait .wr) = true := by decide

/-- V-B7. -/
theorem test_wrbyte_full :
    reached (exec (.wrbyte 1) { ready with link := { ready.link with txf := List.replicate 8 0 } })
      (fun s => faultCode s = 5 && s.link.txf.length = 8 && s.ports.responses = []) = true := by decide

/-- V-B2. -/
theorem test_rdbyte :
    reached (exec .rdbyte ready) (fun s => s.link.txf = [0] && s.cur = .bWait .rd) = true := by decide

/-- V-B2: the micro-step. -/
theorem test_rdbyte_answer :
    reached (microStep { ready with cur := .bWait .rd, link := { ready.link with rxf := [0xC3] } })
      (fun s => lastResponse s = some ⟨.ok, 0xC3⟩ && s.cur = .none && s.link.rxf = []) = true := by decide

/-- V-B4. -/
theorem test_rwbyte_busy :
    reached (exec (.rwbyte 0x55) sending)
      (fun s => lastResponse s = some ⟨.busy, 0⟩ && s.link = sending.link && s.cur = .none) = true := by decide

/-- V-B6: stale data lifts the wait at once. -/
theorem test_rwbyte_stale :
    reached (microStep { ready with cur := .bWait .rw, link := { ready.link with rxf := [0xEE], txf := [0x11] } })
      (fun s => lastResponse s = some ⟨.ok, 0xEE⟩ && s.link.txf = [0x11]) = true := by decide

/-! ## SUBMIT (V-S) -/

/-- P2 step 1. -/
theorem test_submit :
    reached (exec (.submit 10 ⟨0x100, 10⟩ (some ⟨0x200, 10⟩)) { ready with mem := tenBytes })
      (fun s => s = respond .ok 0 sending) = true := by decide

/-- V-S17: a full TXF. -/
theorem test_submit_overflow :
    reached (exec (.submit 1 ⟨0x100, 1⟩ none) { ready with link := { ready.link with txf := List.replicate 8 0 } })
      (fun s => faultCode s = 5 && s.xfer.ioLen = 1 && s.xfer.txOffset = 0 && s.xfer.txc = none) = true := by decide

/-! ## SERVICE (V-H) -/

/-- V-H2: one whole pass, its Issue step and 13 micro-steps. -/
theorem test_service_first_pass :
    reached (microSteps 15 { echoed with cur := .sRxt })
      (fun s => s.xfer = { sending.xfer with txOffset := 10, rxOffset := 7 } && s.regs.rxmark = 2 && !s.regs.ieTx &&
        s.regs.ieRx && s.link.txf = [0xA7, 0xA8, 0xA9] && s.mem = halfCopied && s.cur = .none && !irq s) = true := by
  decide

/-- V-H3: the last pass. -/
theorem test_service_last_pass :
    reached (microSteps 7 { lastEchoed with cur := .sRxt })
      (fun s => s.xfer = Transfer.reset && !s.link.csActive && s.ports.completions =
        [{ client := 1, w := ⟨0x100, 10⟩, r := some ⟨0x200, 10⟩, len := 10, status := .success }]) = true := by decide

/-! ## The end of a run (R14) -/

/-- ISBUSY of the ready state is answered, the run is over, and a claim may be made of it. -/
theorem test_final :
    ∃ t, step (presented .isbusy ready) = .next t ∧ State.Claimable (presented .isbusy ready) t :=
  ⟨_, rfl, ⟨by decide, by decide, by decide⟩, (by unfold State.NoIllegal; decide)⟩

/-- V-F2: the reset after a hard fault does not end the run of the command that got no response. -/
theorem test_not_final_after_fault :
    ∃ t, step { ready with fault := some .txOverflow, env := [.rst] } = .next t ∧
      ¬ State.Final (presented (.wrbyte 1) ready) t :=
  ⟨_, rfl, fun h => absurd h.2.1 (by decide)⟩

/-! ## The Shifter (V-X) -/

/-- V-X3. -/
theorem test_s1 :
    reached (step (moved .s1 { ready with link := { ready.link with txf := [0x11, 0x22] } }))
      (fun s => s.link = { txf := [0x22], rxf := [], sr := some 0x11, csActive := true } &&
        s.ports.wire = [.csAssert 0]) = true := by decide

/-- V-X6. -/
theorem test_s2_auto :
    reached (step (moved (.s2 0x99)
      { ready with
        params := { moreLines := 0, loopback := false }
        regs := { ready.regs with csmode := .auto }
        link := { ready.link with sr := some 0x11, csActive := true } }))
      (fun s => s.link = { txf := [], rxf := [0x99], sr := none, csActive := false } &&
        s.ports.wire = [.frame 0x11 0x99, .csDeassert 0]) = true := by decide

/-! ## Witnesses: for each statement with hypotheses, states and operands that meet them, clause by clause -/

/-- A computable form of `cellHolds`. -/
def holdsB (cell : Option Handle) (io : Word) : Bool :=
  match cell with
  | none => true
  | some h => handleWf h && decide (io.toNat ≤ h.len.toNat)

theorem cellHolds_of_holdsB {cell : Option Handle} {io : Word} (h : holdsB cell io = true) : cellHolds cell io := by
  rintro w rfl
  simpa [holdsB] using h

/-- A computable form of the invariant, for a state that is initialised. -/
def invB (s : State) : Bool :=
  Memory.wf s.mem && decide (s.link.txf.length ≤ 8) && decide (s.link.rxf.length ≤ 8) &&
    decide (s.xfer.rxOffset.toNat ≤ s.xfer.txOffset.toNat) &&
    decide (s.xfer.txOffset.toNat ≤ s.xfer.ioLen.toNat) &&
    (s.xfer.busy || decide (s.xfer.txc = none) && decide (s.xfer.rxc = none) && decide (s.xfer.ioLen = 0) &&
      !s.regs.ieRx) &&
    (!s.xfer.busy || s.xfer.txc.isSome) && holdsB s.xfer.txc s.xfer.ioLen && holdsB s.xfer.rxc s.xfer.ioLen &&
    (match s.xfer.txc, s.xfer.rxc with
      | some w, some r => !handlesOverlap w r
      | _, _ => true) &&
    (!s.regs.ieTx || decide (s.xfer.txOffset.toNat < s.xfer.ioLen.toNat)) && s.inited &&
    (match s.cur with
      | .sTxl i before stop =>
        decide (s.xfer.txOffset = before) && decide (before.toNat ≤ i.toNat) && decide (i.toNat ≤ stop.toNat) &&
          decide (before.toNat < stop.toNat) && decide (stop.toNat ≤ before.toNat + 7) &&
          decide (stop.toNat ≤ s.xfer.ioLen.toNat) && decide (s.link.txf.length ≤ i.toNat - before.toNat)
      | .bWait _ => !s.xfer.busy
      | _ => true) &&
    decide (s.regs.csdef.length = s.params.ncs) && decide (s.regs.fmt = initFormat)

theorem inv_of_invB {s : State} (h : invB s = true) : Inv s := by
  simp only [invB, Bool.and_eq_true, decide_eq_true_eq] at h
  obtain ⟨⟨⟨⟨⟨⟨⟨⟨⟨⟨⟨⟨⟨⟨h1, h2⟩, h3⟩, h4⟩, h5⟩, h6⟩, h7⟩, h8⟩, h9⟩, h10⟩, h11⟩, h12⟩, h13⟩, h14⟩, h15⟩ := h
  refine ⟨h1, h2, h3, h4, h5, fun hb => ?_, fun _ hb => ?_, cellHolds_of_holdsB h8, cellHolds_of_holdsB h9,
    fun w r hw hr => ?_, fun ht => ?_, fun hi => ?_, ?_, h14, fun _ => h15⟩
  · simpa [hb, and_assoc] using h6
  · simpa [hb] using h7
  · simpa [hw, hr] using h10
  · simpa [ht] using h11
  · simp [hi] at h12
  · unfold curAgrees
    revert h13
    split <;> simp_all [Config.burst]

theorem ready_inv : Inv ready := inv_of_invB (by decide)
theorem sending_inv : Inv sending := inv_of_invB (by decide)
theorem echoed_inv : Inv { echoed with cur := .sRxt } := inv_of_invB (by decide)
theorem lastEchoed_inv : Inv { lastEchoed with cur := .sRxt } := inv_of_invB (by decide)
theorem finishing_inv : Inv finishing := inv_of_invB (by decide)

theorem witness_UnusedOperandWordsAreIgnored :
    headerOp 0x00000004 ≠ 0x10 ∧
      headerOp 0x00000030 ∈ ([0x00, 0x02, 0x05, 0x07, 0x09, 0x0A, 0x0B, 0x0D, 0x20, 0x30] : List (BitVec 8)) ∧
      headerRxp 0x00000010 = false :=
  by decide

theorem witness_StepTakesTheCommandOnThePort :
    let s := moved (.issue 0x00000030) ready
    let t := moved (.issue 0x0000000F) ready
    (s.fault = none ∧ s.cur = .none ∧ s.env = .issue 0x00000030 :: [] ∧ decode 0x00000030 = .ok .gpioinit) ∧
      t.fault = none ∧ t.cur = .none ∧ t.env = .issue 0x0000000F :: [] ∧ decode 0x0000000F = .illegal .unknownOpcode :=
  by decide

theorem witness_PlacedTableWordIsRunNext :
    decodeTableWord 32 0x00000030 = some .gpioinit ∧ decodeTableWord 32 0x00000110 = some (.submit 0 ⟨0, 0⟩ (some ⟨0, 0⟩)) :=
  by decide

theorem witness_CommandWaitsForTheOperation :
    let s : State := { echoed with cur := .sRxt, env := [.issue 0x00000002] }
    s.fault = none ∧ s.cur ≠ .none ∧ s.env = .issue 0x00000002 :: [] ∧ ¬ resetNext s ∧ responsesOwed s = 2 ∧
      reached (step s) (fun t => t.env = [.issue 0x00000002] && t.cur = .sRxl && t.fault = none) = true :=
  ⟨rfl, by decide, rfl, (fun ⟨_, h⟩ => nomatch h), by decide, by decide⟩

theorem witness_BeforeInitOnlyFourOperationsRun :
    fresh.inited = false ∧ beforeInit .service = false ∧ beforeInit (.setclient 1) = true ∧ fresh.client = none :=
  by decide

/-- Both sides of the equivalence are met. -/
theorem witness_BusyAnsweredByExactlySeven :
    sending.xfer.busy = true ∧ sending.inited = true ∧
      exec (.setrate 1954) sending = .next (answered .busy 0 sending) ∧
      exec (.setpol 1) sending = .next (answered .busy 0 sending) ∧
      exec (.setpha 1) sending = .next (answered .busy 0 sending) ∧
      exec .rdbyte sending = .next (answered .busy 0 sending) :=
  ⟨rfl, rfl, rfl, rfl, rfl, rfl⟩

/-- V-R4, V-S10. -/
theorem witness_InvalAnsweredByExactlyTwo :
    exec (.setrate 8000001) ready = .next (answered .inval 0 ready) ∧
      exec (.submit 0 ⟨0x300, 2⟩ none) sending = .next (answered .inval 0 sending) :=
  ⟨rfl, rfl⟩

/-- V-F4, V-C6, V-S13, V-E10. -/
theorem witness_IllegalAnsweredByExactlyThese :
    exec .service fresh = .next (answered .illegal 0 fresh) ∧
      exec (.setclient 2) ready = .next (answered .illegal 0 ready) ∧
      exec (.submit 4 ⟨0x100, 4⟩ (some ⟨0x102, 4⟩)) ready = .next (answered .illegal 0 ready) ∧
      (drawsIllegal (moved (.issue 0x0000000F) ready) ∧ ∃ t, step (moved (.issue 0x0000000F) ready) = .next t) ∧
      State.NoIllegal ready ∧ ∃ t, step (presented .isbusy ready) = .next t :=
  ⟨rfl, rfl, rfl, ⟨⟨rfl, rfl, _, _, rfl, fun _ h => nomatch (show Decoded.illegal .unknownOpcode = _ from h)⟩, _, rfl⟩,
    (fun _ h => nomatch h), _, rfl⟩

theorem witness_ErrorReturnChangesNothing :
    exec (.setpol 1) sending = .next (answered .busy 0 sending) ∧
      (answered .busy 0 sending).ports.responses = sending.ports.responses ++ [⟨.busy, 0⟩] ∧ Status.busy ≠ .ok :=
  ⟨rfl, rfl, by decide⟩

theorem witness_SetclientStoresTheClientOnce :
    fresh.client = none ∧ ready.client ≠ none :=
  by decide

theorem witness_SetcsStoresTheIdUnchecked :
    (ready.inited = true ∧ ready.link.csActive = false) ∧ (echoed.inited = true ∧ echoed.link.csActive = true) ∧ fresh.inited = false :=
  by decide

theorem witness_SetrateProgramsTheDivisor :
    ready.inited = true ∧ (1953#32).toNat < 1954 ∧ 8000000 < (8000001#32).toNat ∧ 1954 ≤ (1954#32).toNat ∧
      (8000000#32).toNat ≤ 8000000 ∧ ready.xfer.busy = false ∧ sending.inited = true ∧ sending.xfer.busy = true :=
  by decide

theorem witness_GetrateRecoversTheRate : ready.inited = true ∧ (⟨5, 0, 0, 0, 0, 0⟩ : Cmd).w0 = 0x00000005 := by
  decide

theorem witness_AchievedRateIsNotBelowTheRequest :
    ∃ t, exec (.setrate 3000000) ready = .next t ∧ t.ports.responses = ready.ports.responses ++ [⟨.ok, 3000000⟩] :=
  ⟨_, rfl, rfl⟩

theorem witness_PolarityAndPhaseAreSetAndRead :
    (ready.inited = true ∧ ready.xfer.busy = false) ∧ sending.inited = true ∧ sending.xfer.busy = true ∧
      (1#32).toNat < 2 ∧ 2 ≤ (2#32).toNat :=
  by decide

theorem witness_HoldlowAndRellowSetTheFraming :
    finishing.inited = true ∧ releasedLine finishing = (false, [.csDeassert 0]) ∧ releasedLine ready = (false, []) :=
  ⟨rfl, rfl, rfl⟩

theorem witness_ControlOperationFrames :
    isControl (.setcs 3) = true ∧ ∃ t, exec (.setcs 3) ready = .next t :=
  ⟨rfl, _, rfl⟩

theorem witness_ByteExchangePushesWaitsAndPops :
    let full : State := { ready with link := { ready.link with txf := List.replicate 8 0 } }
    let waiting : State := { ready with cur := .bWait .rw }
    let answeredByte : State := { waiting with link := { ready.link with rxf := [0x3C] } }
    (255#32).toNat < 256 ∧ 256 ≤ (256#32).toNat ∧
      sending.inited = true ∧ sending.xfer.busy = true ∧ ready.inited = true ∧ ready.xfer.busy = false ∧
      ready.link.txf.length ≠ 8 ∧ full.inited = true ∧ full.xfer.busy = false ∧ full.link.txf.length = 8 ∧
      full.fault = none ∧ waiting.inited = true ∧ waiting.cur = .bWait .rw ∧ waiting.link.rxf = [] ∧
      answeredByte.inited = true ∧ answeredByte.cur = .bWait .rw ∧ answeredByte.link.rxf = 0x3C :: [] :=
  by decide

theorem witness_IdleBlockRaisesNoIrq :
    Inv ready ∧ ready.inited = true ∧ ready.xfer.busy = false ∧ ∃ t, exec .rdbyte ready = .next t :=
  ⟨ready_inv, rfl, rfl, _, rfl⟩

/-- V-S12, V-S16, V-S8, V-S11, V-S15, V-S17. -/
theorem witness_SubmitFollowsItsRules :
    let full : State := { ready with link := { ready.link with txf := List.replicate 8 0 } }
    ready.inited = true ∧ ready.xfer.busy = false ∧ ready.fault = none ∧ ¬ legalHandles ⟨0xFFFFFFFE, 4⟩ none ∧
      legalHandles ⟨0xFFFFFFFC, 4⟩ none ∧ txLenNat 10 ⟨0x100, 0⟩ = 0 ∧ legalHandles ⟨0x100, 0⟩ none ∧
      0 < txLenNat 4 ⟨0xFFFFFFFC, 4⟩ ∧ sending.xfer.busy = true ∧ sending.inited = true ∧
      (legalHandles ⟨0x100, 5⟩ (some ⟨0x200, 0⟩) ∧ 0 < txLenNat 5 ⟨0x100, 5⟩ ∧
        ioLenNat 5 ⟨0x100, 5⟩ (some ⟨0x200, 0⟩) = 0) ∧
      (full.inited = true ∧ full.xfer.busy = false ∧ full.fault = none ∧ 0 < ioLenNat 1 ⟨0x100, 1⟩ none ∧
        legalHandles ⟨0x100, 1⟩ none ∧ full.link.txf.length ≤ 8 ∧
        8 < full.link.txf.length + min 7 (ioLenNat 1 ⟨0x100, 1⟩ none)) ∧
      0 < ioLenNat 4 ⟨0xFFFFFFFC, 4⟩ none ∧ ready.link.txf.length + min 7 (ioLenNat 4 ⟨0xFFFFFFFC, 4⟩ none) ≤ 8 :=
  by simp [legalHandles, txLenNat, ioLenNat, ready, fresh, sending, State.resetWith, Link.reset, Transfer.reset]

theorem witness_SubmitReadsOnlyItsFirstBurst :
    ∀ j, j < min 7 (ioLenNat 10 ⟨0x100, 10⟩ none) →
      memRead (memWrite tenBytes 0x107 0) (0x100 + j) = memRead tenBytes (0x100 + j) :=
  by decide

theorem witness_ServiceStartsAPass :
    ready.inited = true ∧ fresh.inited = false :=
  by decide

/-- V-H2, V-H5. -/
theorem witness_ReceiveTestBranchesOnThePendingFlag :
    let s : State := { echoed with cur := .sRxt }
    let t : State := { sending with cur := .sRxt }
    (s.cur = .sRxt ∧ s.regs.ieRx = true ∧ s.regs.rxmark.toNat < s.link.rxf.length) ∧
      t.cur = .sRxt ∧ ¬ (t.regs.ieRx = true ∧ t.regs.rxmark.toNat < t.link.rxf.length) :=
  by decide

theorem witness_DrainMicroStepPopsOneByte :
    let lastEnd : State := { finishing with cur := .sRxl }
    let moreEnd : State := { sending with xfer := { sending.xfer with rxOffset := 7 }, cur := .sRxl }
    let empty : State := { sending with cur := .sRxl }
    let pop : State := { echoed with cur := .sRxl }
    (Inv lastEnd ∧ lastEnd.fault = none ∧ lastEnd.xfer.rxOffset = lastEnd.xfer.txOffset ∧
        lastEnd.xfer.txOffset = lastEnd.xfer.ioLen) ∧
      (Inv moreEnd ∧ moreEnd.fault = none ∧ moreEnd.xfer.rxOffset = moreEnd.xfer.txOffset ∧
        moreEnd.xfer.txOffset ≠ moreEnd.xfer.ioLen) ∧
      (Inv empty ∧ empty.fault = none ∧ empty.xfer.rxOffset ≠ empty.xfer.txOffset ∧ empty.link.rxf = []) ∧
      Inv pop ∧ pop.fault = none ∧ pop.cur = .sRxl ∧ pop.xfer.rxOffset ≠ pop.xfer.txOffset ∧
        pop.link.rxf = 0xA0 :: [0xA1, 0xA2, 0xA3, 0xA4, 0xA5, 0xA6] ∧ pop.xfer.rxc = some ⟨0x200, 10⟩ :=
  ⟨⟨inv_of_invB (by decide), by decide⟩, ⟨inv_of_invB (by decide), by decide⟩, ⟨inv_of_invB (by decide), by decide⟩,
    inv_of_invB (by decide), by decide⟩

theorem witness_TransmitTestBranchesOnThePendingFlag :
    let refill : State := { echoed with xfer := { echoed.xfer with rxOffset := 7 }, cur := .sTxt }
    let empty : State := { refill with xfer := { refill.xfer with ioLen := 7 } }
    let skip : State := { lastEchoed with cur := .sTxt }
    (refill.fault = none ∧ refill.cur = .sTxt ∧ refill.regs.ieTx = true ∧ refill.link.txf = [] ∧
        min (refill.xfer.txOffset.toNat + 7) refill.xfer.ioLen.toNat ≠ refill.xfer.txOffset.toNat) ∧
      (empty.regs.ieTx = true ∧ empty.link.txf = [] ∧
        min (empty.xfer.txOffset.toNat + 7) empty.xfer.ioLen.toNat = empty.xfer.txOffset.toNat) ∧
      skip.fault = none ∧ ¬ (skip.regs.ieTx = true ∧ skip.link.txf = []) :=
  by decide

theorem witness_RefillMicroStepPushesOneByte :
    let push : State := { echoed with cur := .sTxl 9 7 10 }
    let full : State := { push with link := { push.link with txf := List.replicate 8 0 } }
    let missing : State := { push with xfer := { push.xfer with txc := none } }
    push.fault = none ∧ push.cur = .sTxl 9 7 10 ∧ (9#32).toNat < (10#32).toNat ∧ push.link.txf.length ≠ 8 ∧
      push.xfer.txc = some ⟨0x100, 10⟩ ∧ handleWf ⟨0x100, 10⟩ = true ∧ (10#32).toNat ≤ (10#32).toNat ∧
      full.link.txf.length = 8 ∧ full.fault = none ∧ missing.xfer.txc = none ∧ missing.link.txf.length ≠ 8 ∧
      (7#32).toNat < (10#32).toNat :=
  by decide

/-- V-H5, V-H6, V-H9, V-H1. -/
theorem witness_CompletionCheckCompletesOnce :
    let more : State := { sending with cur := .sFin }
    let noBuffer : State := { ready with cur := .sFin }
    let noClient : State := { finishing with client := none }
    (more.fault = none ∧ more.cur = .sFin ∧
        ¬ (more.xfer.txOffset = more.xfer.ioLen ∧ more.xfer.rxOffset = more.xfer.ioLen)) ∧
      (noBuffer.fault = none ∧ noBuffer.xfer.txOffset = noBuffer.xfer.ioLen ∧
        noBuffer.xfer.rxOffset = noBuffer.xfer.ioLen ∧ noBuffer.xfer.txc = none) ∧
      (noClient.xfer.txc ≠ none ∧ noClient.client = none ∧ noClient.xfer.txOffset = noClient.xfer.ioLen) ∧
      finishing.fault = none ∧ finishing.cur = .sFin ∧ finishing.xfer.txOffset = finishing.xfer.ioLen ∧
        finishing.xfer.rxOffset = finishing.xfer.ioLen ∧ finishing.xfer.txc = some ⟨0x100, 1⟩ ∧
        finishing.client = some 1 :=
  by decide

theorem witness_WholeDrainMovesTheOutstandingBytes :
    let s : State := { echoed with cur := .sRxl }
    Inv s ∧ s.fault = none ∧ s.cur = .sRxl ∧
      s.xfer.txOffset.toNat - s.xfer.rxOffset.toNat ≤ s.link.rxf.length ∧ s.xfer.rxc = some ⟨0x200, 10⟩ :=
  ⟨inv_of_invB (by decide), by decide⟩

theorem witness_WholeRefillPushesTheBurst :
    let s : State := { echoed with link := Link.reset, xfer := { echoed.xfer with rxOffset := 7 }, cur := .sTxl 7 7 10 }
    Inv s ∧ s.fault = none ∧ s.cur = .sTxl 7 7 10 ∧ s.xfer.txc = some ⟨0x100, 10⟩ :=
  ⟨inv_of_invB (by decide), by decide⟩

/-- P2 step 3. -/
theorem witness_SafePassDrainsABurstAndSendsTheNext :
    let s : State := { echoed with cur := .sRxt }
    Inv s ∧ Balanced s ∧ s.fault = none ∧ s.cur = .sRxt ∧ ipRx s = true ∧ s.link.txf = [] ∧ s.link.sr = none ∧
      s.xfer.txc = some ⟨0x100, 10⟩ ∧ s.xfer.txOffset.toNat < s.xfer.ioLen.toNat :=
  ⟨echoed_inv, fun _ => by decide, by decide⟩

/-- P2 step 5. -/
theorem witness_SafeLastPassCompletes :
    let s : State := { lastEchoed with cur := .sRxt }
    Inv s ∧ Balanced s ∧ s.fault = none ∧ s.cur = .sRxt ∧ ipRx s = true ∧ s.link.txf = [] ∧ s.link.sr = none ∧
      s.xfer.txc = some ⟨0x100, 10⟩ ∧ s.client = some 1 ∧ s.xfer.txOffset = s.xfer.ioLen :=
  ⟨lastEchoed_inv, fun _ => by decide, by decide⟩

/-- V-H6. -/
theorem witness_SpuriousIdlePassFaults :
    Inv ready ∧ ready.inited = true ∧ ready.fault = none ∧ ready.xfer.busy = false ∧ ready.cur = .none :=
  ⟨ready_inv, by decide⟩

theorem witness_FrameStartTakesTheHeadOfTxf :
    let s := moved .s1 sending
    s.fault = none ∧ s.env = .s1 :: [] ∧ s.link.sr = none ∧ s.link.txf = 0xA0 :: [0xA1, 0xA2, 0xA3, 0xA4, 0xA5, 0xA6] :=
  by decide

theorem witness_FrameEndAppendsTheAnswer :
    let s := moved (.s2 0x99) { ready with link := { ready.link with sr := some 0x11 } }
    let full := moved (.s2 0x99) { ready with link := { ready.link with sr := some 0x11, rxf := List.replicate 8 0 } }
    (s.fault = none ∧ s.env = .s2 0x99 :: [] ∧ s.link.sr = some 0x11 ∧ s.link.rxf.length ≠ 8) ∧
      full.fault = none ∧ full.env = .s2 0x99 :: [] ∧ full.link.sr = some 0x11 ∧ full.link.rxf.length = 8 :=
  by decide

theorem witness_ShifterTouchesOnlyTheLink :
    (moved .s1 sending).env = .s1 :: [] ∧ (∃ t, step (moved .s1 sending) = .next t) ∧
      ∃ t, step (moved (.s2 1) finishing) = .next t :=
  ⟨rfl, ⟨_, rfl⟩, _, rfl⟩

theorem witness_ChipSelectChangesOnlyAsListed :
    (finishing.regs.csid.toNat < finishing.params.ncs ∧ finishing.regs.csdef[0]? = some true ∧
        finishing.regs.csdef[1]? = none) ∧
      (∃ t, step (moved .s1 sending) = .next t ∧ t.link.csActive ≠ (moved .s1 sending).link.csActive) ∧
      ∃ t, step finishing = .next t ∧ t.link.csActive ≠ finishing.link.csActive :=
  ⟨by decide, ⟨_, rfl, by decide⟩, _, rfl, by decide⟩

theorem witness_HardFaultStopsEveryStepButReset :
    let s : State := { ready with fault := some .noClient }
    s.fault = some .noClient ∧ ¬ resetNext s ∧ resetNext (moved .rst s) :=
  ⟨rfl, (fun ⟨_, h⟩ => nomatch h), [], rfl⟩

theorem witness_ResetStepRestoresTheResetValues :
    (moved .rst sending).env = .rst :: [] :=
  rfl

theorem witness_OnlyResetClearsTheStickyState :
    (∃ t, step (presented (.setcs 2) ready) = .next t) ∧ ¬ resetNext (presented (.setcs 2) ready) ∧ ready.client = some 1 ∧
      ready.inited = true :=
  ⟨⟨_, rfl⟩, (fun ⟨_, h⟩ => nomatch h), rfl, rfl⟩

theorem witness_IrqIsTheOrOfThePendingFlags :
    ready.inited = true ∧ fresh.inited = false :=
  by decide

theorem witness_InterruptEnablesHaveOnlyTheseWriters :
    ∃ t, step finishing = .next t ∧ (t.regs.ieTx ≠ finishing.regs.ieTx ∨ t.regs.ieRx ≠ finishing.regs.ieRx) :=
  ⟨_, rfl, by decide⟩

theorem witness_HostReachesOnlyBytesItOwns :
    (∃ h, (sending.xfer.txc = some h ∨ sending.xfer.rxc = some h) ∧ h.base.toNat ≤ (0x209#32).toNat ∧
        (0x209#32).toNat < h.base.toNat + h.len.toNat) ∧
      (¬ ∃ h, (sending.xfer.txc = some h ∨ sending.xfer.rxc = some h) ∧ h.base.toNat ≤ (0x20A#32).toNat ∧
        (0x20A#32).toNat < h.base.toNat + h.len.toNat) ∧
      sending.fault = none ∧ sending.cur = .none ∧ Memory.wf sending.mem = true ∧
      (moved (.hostWrite 0x20A 7) sending).env = .hostWrite 0x20A 7 :: [] :=
  by
  refine ⟨⟨⟨0x200, 10⟩, by decide⟩, ?_, by decide⟩
  rintro ⟨h, h1 | h1, h2, h3⟩ <;> cases h1 <;> revert h2 h3 <;> decide

theorem witness_EveryStepKeepsTheInvariant :
    Inv sending ∧ ∃ t, step (presented (.setcs 2) sending) = .next t :=
  ⟨sending_inv, _, rfl⟩

theorem witness_RunsStopOnlyAtHardFaultsAndOwnedBytes :
    Inv sending ∧ sending.fault = none ∧
      step (moved (.hostRead 0x100) sending) = .refused (.ownedByte 0x100) :=
  ⟨sending_inv, rfl, rfl⟩

/-- V-S15, V-H6. -/
theorem witness_UnreachableHardFaultsStayUnreached :
    let s := presented (.submit 5 ⟨0x100, 5⟩ (some ⟨0x200, 0⟩)) ready
    let idle : State := { ready with cur := .sFin }
    (Inv s ∧ Balanced s ∧ s.fault = none ∧ ∃ t, step s = .next t ∧ t.fault = some .watermarkUnderflow) ∧
      Inv idle ∧ Balanced idle ∧ idle.fault = none ∧ ∃ t, step idle = .next t ∧ t.fault = some .noTxBuffer :=
  ⟨⟨inv_of_invB (by decide), fun _ => by decide, rfl, _, rfl, rfl⟩, inv_of_invB (by decide), fun _ => by decide, rfl, _, rfl, rfl⟩

/-- P2: a frame start after SUBMIT, and the states in which its passes are issued. -/
theorem witness_EveryStepKeepsTheAccounting :
    let s := moved .s1 sending
    let p := presented .service echoed
    (Inv s ∧ Balanced s ∧ Paced s ∧ ¬ initWhileBusy s ∧ ¬ issuesNext .service s ∧ ∃ t, step s = .next t) ∧
      (Inv p ∧ Balanced p ∧ Paced p ∧ ¬ initWhileBusy p ∧ ipRx p = true ∧ ∃ t, step p = .next t) ∧
      p.fault = none ∧ p.xfer.busy = true ∧ p.cur = .none :=
  ⟨⟨inv_of_invB (by decide), fun _ => by decide, fun _ _ => ⟨rfl, by decide⟩,
      (fun ⟨_, _, _, _, _, h, _⟩ => nomatch h), (fun ⟨_, _, _, _, h, _⟩ => nomatch h), _, rfl⟩,
    ⟨inv_of_invB (by decide), fun _ => by decide, fun _ _ => ⟨rfl, by decide⟩,
      (fun ⟨_, _, _, _, _, h, hd⟩ => by
        cases h
        exact nomatch (show Decoded.ok .service = Decoded.ok .init from hd)), by decide, _, rfl⟩,
    rfl, rfl, rfl⟩

theorem lastEchoed_echoing : Echoing { lastEchoed with cur := .sRxl } := by
  rintro - - w ⟨⟩
  refine ⟨by decide, ?_⟩
  rintro r ⟨⟩
  decide

theorem witness_EveryStepKeepsTheEcho :
    let s : State := { lastEchoed with cur := .sRxl }
    Inv s ∧ Balanced s ∧ Echoing s ∧ ¬ initWhileBusy s ∧ ∃ t, step s = .next t :=
  ⟨inv_of_invB (by decide), fun _ => by decide, lastEchoed_echoing, (fun ⟨_, _, h, _⟩ => nomatch h), _, rfl⟩

/-- A one-byte transfer with a read buffer, its echo stored: the next step completes. -/
def echoFinishing : State :=
  { finishing with
    xfer := { finishing.xfer with rxc := some ⟨0x200, 1⟩ }
    mem := [(0x100, 0x5A), (0x200, 0x5A)] }

theorem echoFinishing_echoing : Echoing echoFinishing := by
  rintro - - w ⟨⟩
  refine ⟨by decide, ?_⟩
  rintro r ⟨⟩
  decide

theorem witness_CompletedLoopbackTransferEchoesTheBuffer :
    Inv echoFinishing ∧ Balanced echoFinishing ∧ Echoing echoFinishing ∧ echoFinishing.params.loopback = true ∧
      ∃ t d, step echoFinishing = .next t ∧ t.ports.completions = echoFinishing.ports.completions ++ [d] ∧
        d.r = some ⟨0x200, 1⟩ ∧ 0 < d.len.toNat :=
  ⟨inv_of_invB (by decide), fun _ => by decide, echoFinishing_echoing, rfl, _, _, rfl, rfl, rfl, by decide⟩

theorem witness_BusyEndsOnlyWithOneCompletion :
    Inv finishing ∧ ¬ resetNext finishing ∧ (∃ t, step finishing = .next t ∧ t.xfer.busy = false) ∧
      Inv sending ∧ ¬ resetNext sending ∧ ∃ t, step sending = .next t ∧ t.xfer.busy = true :=
  ⟨finishing_inv, (fun ⟨_, h⟩ => nomatch h), ⟨_, rfl, rfl⟩, sending_inv, (fun ⟨_, h⟩ => nomatch h), _, rfl, rfl⟩

theorem witness_TransferAdvancesMonotonically :
    let s : State := { echoed with cur := .sRxl }
    Inv s ∧ (∃ t, step s = .next t ∧ t.xfer.busy = true ∧ t.fault = none) ∧ s.xfer.busy = true ∧ ¬ initWhileBusy s :=
  ⟨inv_of_invB (by decide), ⟨_, rfl, rfl, rfl⟩, rfl, (fun ⟨_, _, h, _⟩ => nomatch h)⟩

theorem witness_DataDoesNotDependOnClockSettings :
    ∃ t, step (presented .getrate sending) = .next t :=
  ⟨_, rfl⟩

end Sys2Proof.Tests
end

/-! PROOF. The steps of `00_scope.md` R12 and R13: what a step does with the next move, what it does for the command it
works on (R105), and when it stops. -/

namespace Sys2Proof.Machine

/-! ## What a step does with the next move -/

theorem step_of_no_fault {s : State} (h : s.fault = none) : step s = onNext countStep (takeMove s) := by
  simp [step, nextMove, h]

/-- A step that answers a next state and is not reset starts outside the hard fault state (R226, R251). -/
theorem no_fault_of_step {s t : State} (h : step s = .next t) (hr : ¬ resetNext s) : s.fault = none := by
  obtain ⟨u, hu, -⟩ := step_eq_next.1 h
  unfold nextMove at hu
  split at hu
  · assumption
  · split at hu
    · next rest henv => exact absurd ⟨rest, henv⟩ hr
    · cases hu

/-- Everything `takeMove` can be: the Sequencer's micro-step, or the next move of `env`, a move of the Caller or the host
only with no operation in progress (R12, R13, log 2). -/
theorem takeMove_cases (s : State) :
    takeMove s = microStep s ∨
    (∃ rest, s.env = .micro :: rest ∧ takeMove s = microStep { s with env := rest }) ∨
    (∃ c rest, s.env = .issue c :: rest ∧ s.cur = .none ∧ takeMove s = issueCmd c { s with env := rest }) ∨
    (∃ rest, s.env = .s1 :: rest ∧ takeMove s = .next (shiftOut { s with env := rest })) ∨
    (∃ p rest, s.env = .s2 p :: rest ∧ takeMove s = .next (shiftIn p { s with env := rest })) ∨
    (∃ rest, s.env = .rst :: rest ∧ takeMove s = .next (resetBlock { s with env := rest })) ∨
    (∃ a rest, s.env = .hostRead a :: rest ∧ s.cur = .none ∧ takeMove s = hostLoad a { s with env := rest }) ∨
    (∃ a v rest, s.env = .hostWrite a v :: rest ∧ s.cur = .none ∧
      takeMove s = hostStore a v { s with env := rest }) := by
  cases henv : s.env with
  | nil => simp [takeMove, henv]
  | cons m rest =>
    cases m with
    | micro | s1 | s2 | rst => simp [takeMove, henv]
    | issue | hostRead | hostWrite => by_cases hc : s.cur = .none <;> simp [takeMove, henv, whenReady, hc]

/-- With the port ready the step is the `Issue` step of the command presented (R12 (a)). -/
theorem step_issue_ready {s : State} {c : CmdWord} {rest : List Move} (hf : s.fault = none) (hc : s.cur = .none)
    (henv : s.env = .issue c :: rest) : step s = onNext countStep (issueCmd c { s with env := rest }) := by
  rw [step_of_no_fault hf]
  simp [takeMove, henv, whenReady, hc]

/-- A command presented during an operation waits, and the step is the Sequencer's (R13, log 2). -/
theorem step_issue_waiting {s : State} {c : CmdWord} {rest : List Move} (hf : s.fault = none) (hc : s.cur ≠ .none)
    (henv : s.env = .issue c :: rest) : step s = onNext countStep (microStep s) := by
  rw [step_of_no_fault hf]
  simp [takeMove, henv, whenReady, hc]

theorem decode_of_decodeTableWord {nbits w : Nat} {i : Instr} (h : decodeTableWord nbits w = some i) :
    decode (tableCmdWord nbits w) = .ok i := by
  unfold decodeTableWord at h
  split at h <;> cases h
  assumption

/-! ## What a step does for the command it works on -/

/-- The moves to come are kept, and the command is cut by a hard fault (R226), or still in progress without a response, or
answered by one response with nothing left in progress (R105). -/
def ServesCommand (s t : State) : Prop :=
  t.env = s.env ∧
    (t.fault ≠ none ∨
      (t.cur ≠ .none ∧ t.ports.responses = s.ports.responses) ∨
      (t.cur = .none ∧ ∃ r, t.ports.responses = s.ports.responses ++ [r]))

theorem ServesCommand.of_fault {s u : State} (f : HardFault) (he : u.env = s.env) :
    ServesCommand s (raiseHardFault f u) :=
  ⟨by simpa using he, .inl (by simp)⟩

theorem ServesCommand.of_progress {s u : State} (he : u.env = s.env) (hc : u.cur ≠ .none)
    (hr : u.ports.responses = s.ports.responses) : ServesCommand s u :=
  ⟨he, .inr (.inl ⟨hc, hr⟩)⟩

theorem ServesCommand.of_response {s u : State} (st : Status) (d : Word) (he : u.env = s.env) (hc : u.cur = .none)
    (hr : u.ports.responses = s.ports.responses) : ServesCommand s (respond st d u) :=
  ⟨he, .inr (.inr ⟨hc, ⟨st, d⟩, by simp [hr]⟩)⟩

/-! ### The `Issue` step -/

/-- The outcome `o` of an `Issue` step taken in `s` is a next state that serves the command. -/
def ServedBy (s : State) (o : Result) : Prop := ∃ t, o = .next t ∧ ServesCommand s t

theorem servedBy_respond {s u : State} (st : Status) (d : Word) (he : u.env = s.env) (hc : u.cur = .none)
    (hr : u.ports.responses = s.ports.responses) : ServedBy s (.next (respond st d u)) :=
  ⟨_, rfl, .of_response st d he hc hr⟩

theorem servedBy_whenInited {s : State} {k : Result} (hc : s.cur = .none) (hk : ServedBy s k) :
    ServedBy s (whenInited s k) := by
  rcases whenInited_cases s k with ⟨-, h⟩ | ⟨-, h⟩ <;> rw [h]
  · exact hk
  · exact servedBy_respond .illegal 0 rfl hc rfl

theorem servedBy_whenIdle {s : State} {k : Result} (hc : s.cur = .none) (hk : ServedBy s k) :
    ServedBy s (whenIdle s k) := by
  rcases whenIdle_cases s k with ⟨-, h⟩ | ⟨-, h⟩ <;> rw [h]
  · exact hk
  · exact servedBy_respond .busy 0 rfl hc rfl

theorem byteExchange_served {s : State} (k : ByteKind) (v : Byte) (hc : s.cur = .none) :
    ServedBy s (byteExchange k v s) := by
  refine servedBy_whenInited hc (servedBy_whenIdle hc ?_)
  split
  · exact ⟨_, rfl, .of_fault _ rfl⟩
  · exact ⟨_, rfl, .of_progress rfl (by simp) rfl⟩

/-- Priming TXF changes TXF and nothing else, whether it fits or stops at the full FIFO (R206). -/
theorem pushBytes_only_txf (bs : List Byte) (s : State) :
    ∃ l, pushBytes bs s = .ok { s with link.txf := l } ∨ pushBytes bs s = .error { s with link.txf := l } := by
  induction bs generalizing s with
  | nil => exact ⟨s.link.txf, .inl rfl⟩
  | cons b bs ih =>
    unfold pushBytes
    split
    · exact ⟨s.link.txf, .inr rfl⟩
    · exact ih (pushTx b s)

theorem acceptSubmit_served {s : State} (n : Word) (w : Handle) (r : Option Handle) (hc : s.cur = .none) :
    ServedBy s (acceptSubmit n w r s) := by
  unfold acceptSubmit
  dsimp only
  split
  · exact ⟨_, rfl, .of_fault _ rfl⟩
  · obtain ⟨l, h | h⟩ := pushBytes_only_txf
      (memBytes s.mem w.base.toNat (firstBurst (ioLength n w r)))
      { s with xfer.busy := true, xfer.ioLen := ioLength n w r } <;> rw [h]
    · exact servedBy_respond .ok 0 rfl hc rfl
    · exact ⟨_, rfl, .of_fault _ rfl⟩

theorem execSubmit_served {s : State} (n : Word) (w : Handle) (r : Option Handle) (hc : s.cur = .none) :
    ServedBy s (execSubmit n w r s) := by
  refine servedBy_whenInited hc ?_
  split
  · split
    · exact servedBy_respond .inval 0 rfl hc rfl
    · exact servedBy_whenIdle hc (acceptSubmit_served n w r hc)
  · exact servedBy_respond .illegal 0 rfl hc rfl

theorem execSetclient_served {s : State} (id : Word) (hc : s.cur = .none) : ServedBy s (execSetclient id s) := by
  unfold execSetclient
  split <;> exact servedBy_respond _ _ rfl hc rfl

theorem execSetrate_served {s : State} (hz : Word) (hc : s.cur = .none) : ServedBy s (execSetrate hz s) := by
  refine servedBy_whenInited hc ?_
  split
  · exact servedBy_whenIdle hc (servedBy_respond .ok hz rfl hc rfl)
  · exact servedBy_respond .inval 0 rfl hc rfl

/-- Every operation, taken with the port ready, answers a next state that serves its command (R105). -/
theorem exec_served {s : State} (i : Instr) (hc : s.cur = .none) : ServedBy s (exec i s) := by
  cases i with
  | init => exact servedBy_respond .ok 0 (by simp) (by simpa using hc) (by simp)
  | setclient id => exact execSetclient_served id hc
  | isbusy => exact servedBy_respond .ok _ rfl hc rfl
  | setcs id => exact servedBy_whenInited hc (servedBy_respond .ok 0 (by simp) (by simpa using hc) (by simp))
  | setrate hz => exact execSetrate_served hz hc
  | getrate | getpol | getpha | holdlow => exact servedBy_whenInited hc (servedBy_respond .ok _ rfl hc rfl)
  | setpol | setpha => exact servedBy_whenInited hc (servedBy_whenIdle hc (servedBy_respond .ok 0 rfl hc rfl))
  | rellow => exact servedBy_whenInited hc (servedBy_respond .ok 0 (by simp) (by simpa using hc) (by simp))
  | wrbyte v => exact byteExchange_served .wr v hc
  | rdbyte => exact byteExchange_served .rd 0 hc
  | rwbyte v => exact byteExchange_served .rw v hc
  | submit n w r => exact execSubmit_served n w r hc
  | service => exact servedBy_whenInited hc ⟨_, rfl, .of_progress rfl (by simp) rfl⟩
  | gpioinit => exact servedBy_respond .ok 0 rfl hc rfl

/-- So does every command word, an illegal one too (R108). -/
theorem issueCmd_served {s : State} (c : CmdWord) (hc : s.cur = .none) : ServedBy s (issueCmd c s) := by
  cases hd : decode c with
  | ok i => exact issueCmd_of_ok s hd ▸ exec_served i hc
  | illegal why => exact issueCmd_of_illegal s hd ▸ servedBy_respond .illegal 0 rfl hc rfl

/-! ### The micro-steps -/

theorem microRxTest_serves {s t : State} (h : microRxTest s = .next t) : ServesCommand s t := by
  cases h
  exact .of_progress rfl (by dsimp only; split <;> simp) rfl

@[simp] theorem drainEnd_cur (s : State) : (drainEnd s).cur = .sTxt := by
  unfold drainEnd
  split <;> rfl

theorem microDrain_serves {s t : State} (h : microDrain s = .next t) : ServesCommand s t := by
  unfold microDrain at h
  split at h
  · cases h
    exact .of_progress (by simp) (by simp) (by simp)
  · split at h
    · cases h
      exact .of_fault _ rfl
    · split at h
      · cases h
        exact .of_progress rfl (by simp) rfl
      · obtain ⟨-, h⟩ := atAddress_eq_next.1 h
        cases h
        exact .of_progress rfl (by simp) rfl

theorem microTxTest_serves {s t : State} (h : microTxTest s = .next t) : ServesCommand s t := by
  unfold microTxTest at h
  dsimp only at h
  split at h
  · split at h
    · cases h
      exact .of_fault _ rfl
    · cases h
      exact .of_progress rfl (by simp) rfl
  · cases h
    exact .of_progress rfl (by simp) rfl

theorem microRefill_serves {s t : State} {i before stop : Word} (h : microRefill i before stop s = .next t) :
    ServesCommand s t := by
  unfold microRefill at h
  split at h
  · split at h
    · cases h
      exact .of_fault _ rfl
    · split at h
      · cases h
        exact .of_fault _ rfl
      · obtain ⟨-, h⟩ := atAddress_eq_next.1 h
        cases h
        exact .of_progress rfl (by simp) rfl
  · split at h
    · cases h
      exact .of_progress rfl (by simp) rfl
    · cases h

theorem completeTransfer_serves {s t : State} (h : completeTransfer s = .next t) : ServesCommand s t := by
  unfold completeTransfer at h
  dsimp only at h
  split at h
  · cases h
    exact .of_fault _ (by simp)
  · split at h
    · cases h
      exact .of_fault _ (by simp)
    · cases h
      exact .of_response .ok 0 (by simp) rfl (by simp)

theorem microFinish_serves {s t : State} (h : microFinish s = .next t) : ServesCommand s t := by
  unfold microFinish at h
  split at h
  · exact completeTransfer_serves h
  · cases h
    exact .of_response .ok 0 rfl rfl rfl

theorem microByteWait_serves {s t : State} {k : ByteKind} (hc : s.cur = .bWait k)
    (h : microByteWait k s = .next t) : ServesCommand s t := by
  unfold microByteWait at h
  split at h
  · cases h
    exact .of_progress rfl (by simp [hc]) rfl
  · cases h
    exact .of_response .ok _ rfl rfl rfl

/-- A micro-step of the operation in progress serves its command (R105). -/
theorem microStep_serves {s t : State} (hc : s.cur ≠ .none) (h : microStep s = .next t) : ServesCommand s t := by
  unfold microStep at h
  split at h
  case h_1 hn => exact absurd hn hc
  case h_2 => exact microRxTest_serves h
  case h_3 => exact microDrain_serves h
  case h_4 => exact microTxTest_serves h
  case h_5 => exact microRefill_serves h
  case h_6 => exact microFinish_serves h
  case h_7 k hk => exact microByteWait_serves hk h

theorem microStep_of_none {s : State} (hc : s.cur = .none) : microStep s = .next s := by
  simp [microStep, hc]

/-! ## One response for each command -/

/-- The responses given and those still owed, taken together (R105). -/
def responsesInAll (s : State) : Nat := s.ports.responses.length + responsesOwed s

/-- A served command is counted once: it is owed its response, or it has it. -/
theorem ServesCommand.responsesInAll_eq {s t : State} (h : ServesCommand s t) (hf : t.fault = none) :
    responsesInAll t = s.ports.responses.length + s.env.countP isIssue + 1 := by
  obtain ⟨he, h | ⟨hc, hr⟩ | ⟨hc, r, hr⟩⟩ := h
  · exact absurd hf h
  · simp [responsesInAll, responsesOwed, he, hc, hr, Nat.add_assoc]
  · simp [responsesInAll, responsesOwed, he, hc, hr]
    omega

/-- Consuming a move that presents no command changes neither number. -/
theorem responsesInAll_consumed {s : State} {m : Move} {rest : List Move} (henv : s.env = m :: rest)
    (hm : isIssue m = false) : responsesInAll { s with env := rest } = responsesInAll s := by
  simp [responsesInAll, responsesOwed, henv, hm]

theorem microStep_responsesInAll {s t : State} (h : microStep s = .next t) (hf : t.fault = none) :
    responsesInAll t = responsesInAll s := by
  by_cases hc : s.cur = .none
  · rw [microStep_of_none hc] at h
    cases h
    rfl
  · rw [(microStep_serves hc h).responsesInAll_eq hf]
    simp [responsesInAll, responsesOwed, hc, Nat.add_assoc]

theorem issueCmd_responsesInAll {s t : State} {c : CmdWord} {rest : List Move} (henv : s.env = .issue c :: rest)
    (hc : s.cur = .none) (h : issueCmd c { s with env := rest } = .next t) (hf : t.fault = none) :
    responsesInAll t = responsesInAll s := by
  obtain ⟨u, hu, hs⟩ := issueCmd_served (s := { s with env := rest }) c hc
  obtain rfl : u = t := by simpa [hu] using h
  rw [hs.responsesInAll_eq hf]
  simp [responsesInAll, responsesOwed, henv, hc, List.countP_cons, isIssue, Nat.add_assoc]

theorem shiftOut_responsesInAll (s : State) : responsesInAll (shiftOut s) = responsesInAll s := by
  simp [responsesInAll, responsesOwed]

theorem shiftIn_responsesInAll (p : Byte) (s : State) : responsesInAll (shiftIn p s) = responsesInAll s := by
  simp [responsesInAll, responsesOwed]

theorem hostLoad_eq_next {s t : State} {a : Word} (h : hostLoad a s = .next t) : t = s := by
  unfold hostLoad at h
  split at h <;> cases h
  rfl

theorem hostStore_eq_next {s t : State} {a : Word} {v : Byte} (h : hostStore a v s = .next t) :
    t = { s with mem := memWrite s.mem a.toNat v } := by
  unfold hostStore at h
  split at h <;> cases h
  rfl

/-- Every move but reset keeps the responses given and owed, unless it ends in a hard fault (R105, R226). -/
theorem takeMove_responsesInAll {s t : State} (hr : ¬ resetNext s) (h : takeMove s = .next t)
    (hf : t.fault = none) : responsesInAll t = responsesInAll s := by
  rcases takeMove_cases s with hm | ⟨rest, henv, hm⟩ | ⟨c, rest, henv, hc, hm⟩ | ⟨rest, henv, hm⟩ |
    ⟨p, rest, henv, hm⟩ | ⟨rest, henv, hm⟩ | ⟨a, rest, henv, -, hm⟩ | ⟨a, v, rest, henv, -, hm⟩ <;> rw [hm] at h
  · exact microStep_responsesInAll h hf
  · exact (microStep_responsesInAll h hf).trans (responsesInAll_consumed henv rfl)
  · exact issueCmd_responsesInAll henv hc h hf
  · cases h
    exact (shiftOut_responsesInAll _).trans (responsesInAll_consumed henv rfl)
  · cases h
    exact (shiftIn_responsesInAll p _).trans (responsesInAll_consumed henv rfl)
  · exact absurd ⟨rest, henv⟩ hr
  · rw [hostLoad_eq_next h]
    exact responsesInAll_consumed henv rfl
  · rw [hostStore_eq_next h]
    exact responsesInAll_consumed henv rfl

/-- Settles O8: a micro-step keeps the moves to come, and each command is served by exactly one response. -/
theorem commandWaitsForTheOperation : Obligations.CommandWaitsForTheOperation := by
  refine ⟨fun s c rest hf hc henv => ⟨step_issue_waiting hf hc henv, fun t ht => ?_⟩, fun s t ht hr hf => ?_⟩
  · obtain ⟨u, hu, rfl⟩ := onNext_eq_next.1 (step_issue_waiting hf hc henv ▸ ht)
    exact (microStep_serves hc hu).1.trans henv
  · obtain ⟨u, hu, rfl⟩ := onNext_eq_next.1 (step_of_no_fault (no_fault_of_step ht hr) ▸ ht)
    exact takeMove_responsesInAll (t := u) hr hu hf

/-! ## When a step stops -/

/-- The invariant does not speak of the moves to come. -/
theorem Inv.withEnv {s : State} (h : Inv s) (rest : List Move) : Inv { s with env := rest } := { h with }

/-- An offset below `io_len` is an address of the handle that holds the transfer (R71, R172). -/
theorem cellHolds.address_lt {cell : Option Handle} {io : Word} {h : Handle} (hh : cellHolds cell io)
    (hcell : cell = some h) {off : Word} (hoff : off.toNat < io.toNat) :
    h.base.toNat + off.toNat < Config.bufSize := by
  obtain ⟨hwf, hlen⟩ := hh h hcell
  have := (handleWf_iff h).1 hwf
  unfold Config.bufSize
  omega

/-- No drain micro-step of a run leaves BUF: below `tx_offset` every offset is inside the read handle (R183). -/
theorem microDrain_has_next {s : State} (h : Inv s) : ∃ t, microDrain s = .next t := by
  unfold microDrain
  split
  · exact ⟨_, rfl⟩
  · next hne =>
    have hlt : s.xfer.rxOffset.toNat < s.xfer.ioLen.toNat := by
      have := h.rxLeTx
      have := h.txLeIo
      have := mt BitVec.eq_of_toNat_eq hne
      omega
    split
    · exact ⟨_, rfl⟩
    · split
      · exact ⟨_, rfl⟩
      · next hcell => exact ⟨_, atAddress_of_lt _ (h.rxHolds.address_lt hcell hlt)⟩

/-- No refill micro-step of a run leaves BUF or passes its end (R186). -/
theorem microRefill_has_next {s : State} {i before stop : Word} (h : Inv s) (hc : s.cur = .sTxl i before stop) :
    ∃ t, microRefill i before stop s = .next t := by
  have hagree := h.cur
  simp only [curAgrees, hc] at hagree
  obtain ⟨-, -, hile, -, -, hstop, -⟩ := hagree
  unfold microRefill
  split
  · split
    · exact ⟨_, rfl⟩
    · split
      · exact ⟨_, rfl⟩
      · next hcell => exact ⟨_, atAddress_of_lt _ (h.txHolds.address_lt hcell (by omega))⟩
  · next hge =>
    have heq : i = stop := BitVec.eq_of_toNat_eq (by omega)
    exact ⟨_, if_pos heq⟩

theorem microTxTest_has_next (s : State) : ∃ t, microTxTest s = .next t := by
  unfold microTxTest
  dsimp only
  split
  · split <;> exact ⟨_, rfl⟩
  · exact ⟨_, rfl⟩

theorem microFinish_has_next (s : State) : ∃ t, microFinish s = .next t := by
  unfold microFinish completeTransfer
  dsimp only
  split
  · split
    · exact ⟨_, rfl⟩
    · split <;> exact ⟨_, rfl⟩
  · exact ⟨_, rfl⟩

theorem microByteWait_has_next (k : ByteKind) (s : State) : ∃ t, microByteWait k s = .next t := by
  unfold microByteWait
  split <;> exact ⟨_, rfl⟩

/-- Every micro-step of a run answers a next state. -/
theorem microStep_has_next {s : State} (h : Inv s) : ∃ t, microStep s = .next t := by
  unfold microStep
  split
  case h_1 => exact ⟨s, rfl⟩
  case h_2 => exact ⟨_, rfl⟩
  case h_3 => exact microDrain_has_next h
  case h_4 => exact microTxTest_has_next s
  case h_5 hc => exact microRefill_has_next h hc
  case h_6 => exact microFinish_has_next s
  case h_7 k _ => exact microByteWait_has_next k s

/-- A host load of a byte the block does not own is a next state; of an owned byte it is refused (R75). -/
theorem hostLoad_cases (a : Word) (s : State) :
    (∃ t, hostLoad a s = .next t) ∨
      (ownedByBlock s a.toNat = true ∧ hostLoad a s = .refused (.ownedByte a.toNat)) := by
  cases h : ownedByBlock s a.toNat <;> simp [hostLoad, h]

theorem hostStore_cases (a : Word) (v : Byte) (s : State) :
    (∃ t, hostStore a v s = .next t) ∨
      (ownedByBlock s a.toNat = true ∧ hostStore a v s = .refused (.ownedByte a.toNat)) := by
  cases h : ownedByBlock s a.toNat <;> simp [hostStore, h]

/-- In a state of a run the next move answers a next state, or it is a host access to an owned byte. -/
theorem takeMove_next_or_ownedByte {s : State} (h : Inv s) :
    (∃ t, takeMove s = .next t) ∨
      ∃ a v rest, (s.env = .hostWrite a v :: rest ∨ s.env = .hostRead a :: rest) ∧
        s.cur = .none ∧ ownedByBlock s a.toNat = true ∧ takeMove s = .refused (.ownedByte a.toNat) := by
  rcases takeMove_cases s with hm | ⟨rest, -, hm⟩ | ⟨c, rest, -, hc, hm⟩ | ⟨rest, -, hm⟩ |
    ⟨p, rest, -, hm⟩ | ⟨rest, -, hm⟩ | ⟨a, rest, henv, hc, hm⟩ | ⟨a, v, rest, henv, hc, hm⟩ <;> rw [hm]
  · exact .inl (microStep_has_next h)
  · exact .inl (microStep_has_next (h.withEnv rest))
  · obtain ⟨t, ht, -⟩ := issueCmd_served (s := { s with env := rest }) c hc
    exact .inl ⟨t, ht⟩
  · exact .inl ⟨_, rfl⟩
  · exact .inl ⟨_, rfl⟩
  · exact .inl ⟨_, rfl⟩
  · rcases hostLoad_cases a { s with env := rest } with hn | ⟨ho, hl⟩
    · exact .inl hn
    · exact .inr ⟨a, 0, rest, .inr henv, hc, ho, hl⟩
  · rcases hostStore_cases a v { s with env := rest } with hn | ⟨ho, hl⟩
    · exact .inl hn
    · exact .inr ⟨a, v, rest, .inl henv, hc, ho, hl⟩

/-- Settles O53: the invariant keeps every access of a micro-step inside its handle, every operation answers, and the host
accesses are the only moves with a refusal. -/
theorem runsStopOnlyAtHardFaultsAndOwnedBytes : Obligations.RunsStopOnlyAtHardFaultsAndOwnedBytes := by
  intro s h hf
  rw [step_of_no_fault hf]
  rcases takeMove_next_or_ownedByte h with ⟨t, ht⟩ | ⟨a, v, rest, henv, hc, ho, hm⟩
  · exact .inl ⟨countStep t, by rw [ht, onNext_next]⟩
  · exact .inr ⟨a, v, rest, henv, hc, ho, by rw [hm]; rfl⟩

/-! ## The command on the port -/

/-- Settles O6: the `Issue` step decodes the word, and runs it or answers ILLEGAL. -/
theorem stepTakesTheCommandOnThePort : Obligations.StepTakesTheCommandOnThePort := by
  refine fun s c rest hf hc henv => ⟨fun i hi => ?_, fun why hw => ?_⟩ <;> rw [step_issue_ready hf hc henv]
  · rw [issueCmd_of_ok _ hi]
    rfl
  · rw [issueCmd_of_illegal _ hw]
    rfl

/-- Settles O7: placing a word makes the port ready with the word's command on it. -/
theorem placedTableWordIsRunNext : Obligations.PlacedTableWordIsRunNext := by
  intro s nbits w i hi
  have hstep : step (s.withFetchWord nbits w) =
      onNext countStep (issueCmd (tableCmdWord nbits w) { s with cur := .none, fault := none }) :=
    step_issue_ready rfl rfl rfl
  rw [hstep, issueCmd_of_ok _ (decode_of_decodeTableWord hi)]
  rfl

end Sys2Proof.Machine

/-! PROOF. The state of `10_state.md`: what each agent's step can do to it, said once, and what every step keeps. -/

namespace Sys2Proof.Machine

/-! ## What a step can do -/

/-- SUBMIT's writes before the transfer is armed, with TXF as the priming pushes leave it (R170). -/
def primed (io : Word) (l : List Byte) (s : State) : State :=
  { s with xfer.busy := true, xfer.ioLen := io, link.txf := l }

/-- Everything the `Issue` step of a decoded command can do: an answer that changes nothing, or the operation's own
writes (`40_control_ops.md`, `41_byte_ops.md`, `42_submit.md`, `44_gpio.md`). -/
inductive IssueEffect (s : State) : Instr → State → Prop
  /-- The error returns, and the operations that only read. -/
  | answer {i : Instr} (st : Status) (d : Word) : IssueEffect s i (respond st d s)
  | init : IssueEffect s .init (respond .ok 0 (initFields s))
  | setclient {id : Word} : IssueEffect s (.setclient id) (respond .ok 0 { s with client := some id })
  | setcs {id : Word} : IssueEffect s (.setcs id) (respond .ok 0 (writeCsid id s))
  | setrate {hz : Word} : IssueEffect s (.setrate hz)
      (respond .ok hz { s with regs.div := rateDivisor hz, regs.divSet := true })
  | setpol {level : BitVec 1} : IssueEffect s (.setpol level) (respond .ok 0 { s with regs.pol := level })
  | setpha {edge : BitVec 1} : IssueEffect s (.setpha edge) (respond .ok 0 { s with regs.pha := edge })
  | holdlow : IssueEffect s .holdlow (respond .ok 0 (writeCsHold s))
  | rellow : IssueEffect s .rellow (respond .ok 0 (writeCsAuto s))
  | byteOverflow {i : Instr} (hi : s.inited = true) : IssueEffect s i (raiseHardFault .txOverflow s)
  | bytePushed {i : Instr} (k : ByteKind) (v : Byte) (hi : s.inited = true) (hb : s.xfer.busy = false)
      (hroom : txFull s = false) : IssueEffect s i { pushTx v s with cur := .bWait k }
  /-- The empty burst, or a TXF `l` filled up by the priming pushes. -/
  | submitFault {n : Word} {w : Handle} {r : Option Handle} (f : HardFault) (l : List Byte)
      (hi : s.inited = true) (hb : s.xfer.busy = false)
      (hl : s.link.txf.length ≤ Config.fifoCapacity → l.length ≤ Config.fifoCapacity) :
      IssueEffect s (.submit n w r) (raiseHardFault f (primed (ioLength n w r) l s))
  | submitted {n : Word} {w : Handle} {r : Option Handle} (l : List Byte)
      (hi : s.inited = true) (hb : s.xfer.busy = false) (hlegal : submitLegal w r = true)
      (hl : s.link.txf.length ≤ Config.fifoCapacity → l.length ≤ Config.fifoCapacity) :
      IssueEffect s (.submit n w r)
        (respond .ok 0 (armTransfer w r (firstBurst (ioLength n w r)) (primed (ioLength n w r) l s)))
  | service (hi : s.inited = true) : IssueEffect s .service { s with cur := .sRxt }
  | gpioinit : IssueEffect s .gpioinit (respond .ok 0 { s with pinfn := 0b1111 })

theorem IssueEffect.of_whenInited {s t : State} {i : Instr} {k : Result} (h : whenInited s k = .next t)
    (hk : s.inited = true → k = .next t → IssueEffect s i t) : IssueEffect s i t := by
  rcases whenInited_cases s k with ⟨hi, hw⟩ | ⟨-, hw⟩ <;> rw [hw] at h
  · exact hk hi h
  · cases h
    exact .answer ..

theorem IssueEffect.of_whenIdle {s t : State} {i : Instr} {k : Result} (h : whenIdle s k = .next t)
    (hk : s.xfer.busy = false → k = .next t → IssueEffect s i t) : IssueEffect s i t := by
  rcases whenIdle_cases s k with ⟨hb, hw⟩ | ⟨-, hw⟩ <;> rw [hw] at h
  · exact hk hb h
  · cases h
    exact .answer ..

theorem pushTx_keeps_room {s : State} (v : Byte) (hs : s.link.txf.length ≤ Config.fifoCapacity)
    (hroom : txFull s = false) : (pushTx v s).link.txf.length ≤ Config.fifoCapacity := by
  simp only [txFull, decide_eq_false_iff_not] at hroom
  simp only [pushTx_link_txf, List.length_append, List.length_singleton]
  omega

/-- The priming pushes keep TXF within its capacity, whether they fit or not (R35, R206). -/
theorem pushBytes_keeps_room (bs : List Byte) (s : State) :
    ∃ l, (pushBytes bs s = .ok { s with link.txf := l } ∨ pushBytes bs s = .error { s with link.txf := l }) ∧
      (s.link.txf.length ≤ Config.fifoCapacity → l.length ≤ Config.fifoCapacity) := by
  induction bs generalizing s with
  | nil => exact ⟨s.link.txf, .inl rfl, id⟩
  | cons b bs ih =>
    unfold pushBytes
    split
    · exact ⟨s.link.txf, .inr rfl, id⟩
    · next hfull =>
      obtain ⟨l, hl, hroom⟩ := ih (pushTx b s)
      exact ⟨l, hl, fun hs => hroom (pushTx_keeps_room b hs (by simpa using hfull))⟩

theorem byteExchange_effect {s t : State} {i : Instr} {k : ByteKind} {v : Byte}
    (h : byteExchange k v s = .next t) : IssueEffect s i t := by
  refine .of_whenInited h fun hi h => .of_whenIdle h fun hb h => ?_
  split at h
  · cases h
    exact .byteOverflow hi
  · next hfull =>
    cases h
    exact .bytePushed k v hi hb (by simpa using hfull)

theorem acceptSubmit_effect {s t : State} {n : Word} {w : Handle} {r : Option Handle} (hi : s.inited = true)
    (hb : s.xfer.busy = false) (hlegal : submitLegal w r = true) (h : acceptSubmit n w r s = .next t) :
    IssueEffect s (.submit n w r) t := by
  unfold acceptSubmit at h
  dsimp only at h
  split at h
  · cases h
    exact .submitFault _ s.link.txf hi hb id
  · obtain ⟨l, hp | hp, hl⟩ := pushBytes_keeps_room (memBytes s.mem w.base.toNat (firstBurst (ioLength n w r)))
      { s with xfer.busy := true, xfer.ioLen := ioLength n w r } <;> rw [hp] at h <;> cases h
    · exact .submitted l hi hb hlegal hl
    · exact .submitFault _ l hi hb hl

theorem execSubmit_effect {s t : State} {n : Word} {w : Handle} {r : Option Handle}
    (h : execSubmit n w r s = .next t) : IssueEffect s (.submit n w r) t := by
  refine .of_whenInited h fun hi h => ?_
  split at h
  · next hlegal =>
    split at h
    · cases h
      exact .answer ..
    · exact .of_whenIdle h fun hb h => acceptSubmit_effect hi hb hlegal h
  · cases h
    exact .answer ..

theorem execSetclient_effect {s t : State} {id : Word} (h : execSetclient id s = .next t) :
    IssueEffect s (.setclient id) t := by
  unfold execSetclient at h
  split at h <;> cases h
  · exact .answer ..
  · exact .setclient

theorem execSetrate_effect {s t : State} {hz : Word} (h : execSetrate hz s = .next t) :
    IssueEffect s (.setrate hz) t := by
  refine .of_whenInited h fun _ h => ?_
  split at h
  · refine .of_whenIdle h fun _ h => ?_
    cases h
    exact .setrate
  · cases h
    exact .answer ..

/-- The meaning of an operation has no other effects than those listed. -/
theorem exec_effect {s t : State} {i : Instr} (h : exec i s = .next t) : IssueEffect s i t := by
  cases i with
  | init => cases h; exact .init
  | setclient id => exact execSetclient_effect h
  | isbusy => cases h; exact .answer ..
  | setcs id => exact .of_whenInited h fun _ h => by cases h; exact .setcs
  | setrate hz => exact execSetrate_effect h
  | getrate | getpol | getpha => exact .of_whenInited h fun _ h => by cases h; exact .answer ..
  | setpol level => exact .of_whenInited h fun _ h => .of_whenIdle h fun _ h => by cases h; exact .setpol
  | setpha edge => exact .of_whenInited h fun _ h => .of_whenIdle h fun _ h => by cases h; exact .setpha
  | holdlow => exact .of_whenInited h fun _ h => by cases h; exact .holdlow
  | rellow => exact .of_whenInited h fun _ h => by cases h; exact .rellow
  | wrbyte | rdbyte | rwbyte => exact byteExchange_effect h
  | submit n w r => exact execSubmit_effect h
  | service => exact .of_whenInited h fun hi h => by cases h; exact .service hi
  | gpioinit => cases h; exact .gpioinit

/-- Everything a micro-step of the Sequencer can do (`43_service.md`, R163). -/
inductive MicroEffect (s : State) : State → Prop
  /-- No operation in progress, or a byte operation that waits. -/
  | nothing : MicroEffect s s
  | rxTested (hc : s.cur = .sRxt) : MicroEffect s { s with cur := if ipRx s then .sRxl else .sTxt }
  | drainEnded (hc : s.cur = .sRxl) : MicroEffect s (drainEnd s)
  | drainFault (hc : s.cur = .sRxl) : MicroEffect s (raiseHardFault .rxFifoEmpty s)
  | byteDropped {v : Byte} {rest : List Byte} (hc : s.cur = .sRxl) (hne : s.xfer.rxOffset ≠ s.xfer.txOffset)
      (hrxf : s.link.rxf = v :: rest) :
      MicroEffect s { s with link.rxf := rest, xfer.rxOffset := s.xfer.rxOffset + 1, cur := .sRxl }
  | byteStored {v : Byte} {rest : List Byte} {a : Nat} (hc : s.cur = .sRxl)
      (hne : s.xfer.rxOffset ≠ s.xfer.txOffset) (hrxf : s.link.rxf = v :: rest) (ha : a < Config.bufSize) :
      MicroEffect s { s with
        link.rxf := rest, mem := memWrite s.mem a v, xfer.rxOffset := s.xfer.rxOffset + 1, cur := .sRxl }
  | txFlagClear (hc : s.cur = .sTxt) : MicroEffect s { s with cur := .sFin }
  | refillFault (f : HardFault) (hc : s.cur ≠ .none) : MicroEffect s (raiseHardFault f s)
  | refillStarted (hc : s.cur = .sTxt) (hip : ipTx s = true)
      (hne : burstEnd s.xfer.txOffset s.xfer.ioLen ≠ s.xfer.txOffset) :
      MicroEffect s { s with
        cur := .sTxl s.xfer.txOffset s.xfer.txOffset (burstEnd s.xfer.txOffset s.xfer.ioLen) }
  | bytePushed {i before stop : Word} (v : Byte) (hc : s.cur = .sTxl i before stop) (hlt : i.toNat < stop.toNat)
      (hroom : txFull s = false) : MicroEffect s { pushTx v s with cur := .sTxl (i + 1) before stop }
  | refillEnded {before stop : Word} (hc : s.cur = .sTxl stop before stop) :
      MicroEffect s (refillEnd before stop s)
  | completionNoBuffer (hc : s.cur = .sFin) : MicroEffect s (raiseHardFault .noTxBuffer (completionStart s))
  | completionNoClient (hc : s.cur = .sFin) :
      MicroEffect s (raiseHardFault .noClient (takeCells (completionStart s)))
  | completed {w : Handle} {id : Word} (hc : s.cur = .sFin) (hw : s.xfer.txc = some w) (hid : s.client = some id) :
      MicroEffect s (respond .ok 0 { zeroCounters (emitDone
        { client := id, w := w, r := s.xfer.rxc, len := s.xfer.ioLen, status := .success }
        (takeCells (completionStart s))) with xfer.busy := false, cur := .none })
  | passEnded (hc : s.cur = .sFin) : MicroEffect s (respond .ok 0 { s with cur := .none })
  | waitEnded {r : Byte} {rest : List Byte} {k : ByteKind} (d : Word) (hc : s.cur = .bWait k)
      (hrxf : s.link.rxf = r :: rest) :
      MicroEffect s (respond .ok d { s with link.rxf := rest, cur := .none })

theorem microDrain_effect {s t : State} (hc : s.cur = .sRxl) (h : microDrain s = .next t) : MicroEffect s t := by
  unfold microDrain at h
  split at h
  · cases h
    exact .drainEnded hc
  · next hne =>
    split at h
    · cases h
      exact .drainFault hc
    · next v rest hrxf =>
      split at h
      · cases h
        exact .byteDropped hc hne hrxf
      · obtain ⟨ha, h⟩ := atAddress_eq_next.1 h
        cases h
        exact .byteStored hc hne hrxf ha

theorem microTxTest_effect {s t : State} (hc : s.cur = .sTxt) (h : microTxTest s = .next t) : MicroEffect s t := by
  unfold microTxTest at h
  dsimp only at h
  split at h
  · next hip =>
    split at h <;> cases h
    · exact .refillFault _ (by simp [hc])
    · next hne => exact .refillStarted hc hip hne
  · cases h
    exact .txFlagClear hc

theorem microRefill_effect {s t : State} {i before stop : Word} (hc : s.cur = .sTxl i before stop)
    (h : microRefill i before stop s = .next t) : MicroEffect s t := by
  unfold microRefill at h
  split at h
  · next hlt =>
    split at h
    · cases h
      exact .refillFault _ (by simp [hc])
    · next hfull =>
      split at h
      · cases h
        exact .refillFault _ (by simp [hc])
      · obtain ⟨-, h⟩ := atAddress_eq_next.1 h
        cases h
        exact .bytePushed _ hc hlt (by simpa using hfull)
  · split at h
    · next heq =>
      cases h
      exact .refillEnded (heq ▸ hc)
    · cases h

theorem completeTransfer_effect {s t : State} (hc : s.cur = .sFin) (h : completeTransfer s = .next t) :
    MicroEffect s t := by
  unfold completeTransfer at h
  simp only [completionStart_xfer] at h
  split at h
  · cases h
    exact .completionNoBuffer hc
  · next w hw =>
    split at h
    · cases h
      exact .completionNoClient hc
    · next id hid =>
      cases h
      have hid : s.client = some id := (completionStart_client s).symm.trans hid
      simpa [takeCells, emitDone] using MicroEffect.completed hc hw hid

theorem microFinish_effect {s t : State} (hc : s.cur = .sFin) (h : microFinish s = .next t) : MicroEffect s t := by
  unfold microFinish at h
  split at h
  · exact completeTransfer_effect hc h
  · cases h
    exact .passEnded hc

theorem microByteWait_effect {s t : State} {k : ByteKind} (hc : s.cur = .bWait k)
    (h : microByteWait k s = .next t) : MicroEffect s t := by
  unfold microByteWait at h
  split at h <;> cases h
  · exact .nothing
  · next hrxf => exact .waitEnded _ hc hrxf

/-- A micro-step has no other effects than those listed. -/
theorem microStep_effect {s t : State} (h : microStep s = .next t) : MicroEffect s t := by
  unfold microStep at h
  split at h
  case h_1 => cases h; exact .nothing
  case h_2 hc => cases h; exact .rxTested hc
  case h_3 hc => exact microDrain_effect hc h
  case h_4 hc => exact microTxTest_effect hc h
  case h_5 hc => exact microRefill_effect hc h
  case h_6 hc => exact microFinish_effect hc h
  case h_7 hc => exact microByteWait_effect hc h

/-- Everything a step but reset can do to `s`, before it is counted: an agent's effect, the move consumed (R12). -/
inductive StepEffect (s : State) : State → Prop
  | sequencer {u : State} (rest : List Move) (h : MicroEffect { s with env := rest } u) : StepEffect s u
  | issued {u : State} {i : Instr} (rest : List Move) (hi : issuesNext i s)
      (h : IssueEffect { s with env := rest } i u) : StepEffect s u
  | unknownCommand (rest : List Move) : StepEffect s (respond .illegal 0 { s with env := rest })
  | frameStart (rest : List Move) : StepEffect s (shiftOut { s with env := rest })
  | frameEnd (rest : List Move) (p : Byte) : StepEffect s (shiftIn p { s with env := rest })
  | hostLoaded (rest : List Move) : StepEffect s { s with env := rest }
  | hostStored (rest : List Move) (a : Word) (v : Byte) :
      StepEffect s { s with env := rest, mem := memWrite s.mem a.toNat v }

theorem issueCmd_effect {s u : State} {c : CmdWord} {rest : List Move} (hf : s.fault = none) (hc : s.cur = .none)
    (henv : s.env = .issue c :: rest) (h : issueCmd c { s with env := rest } = .next u) : StepEffect s u := by
  cases hd : decode c with
  | ok i =>
    rw [issueCmd_of_ok _ hd] at h
    exact .issued rest ⟨hf, hc, c, rest, henv, hd⟩ (exec_effect h)
  | illegal why =>
    rw [issueCmd_of_illegal _ hd] at h
    cases h
    exact .unknownCommand rest

/-- The step of a state outside the hard fault state that is not reset has no other effects than those listed. -/
theorem takeMove_effect {s u : State} (hf : s.fault = none) (hr : ¬ resetNext s) (h : takeMove s = .next u) :
    StepEffect s u := by
  rcases takeMove_cases s with hm | ⟨rest, -, hm⟩ | ⟨c, rest, henv, hc, hm⟩ | ⟨rest, -, hm⟩ |
    ⟨p, rest, -, hm⟩ | ⟨rest, henv, -⟩ | ⟨a, rest, -, -, hm⟩ | ⟨a, v, rest, -, -, hm⟩ <;> try rw [hm] at h
  · exact .sequencer s.env (microStep_effect h)
  · exact .sequencer rest (microStep_effect h)
  · exact issueCmd_effect hf hc henv h
  · cases h
    exact .frameStart rest
  · cases h
    exact .frameEnd rest p
  · exact absurd ⟨rest, henv⟩ hr
  · exact hostLoad_eq_next h ▸ .hostLoaded rest
  · exact hostStore_eq_next h ▸ .hostStored rest a v

/-- A step that is not reset: no hard fault before it, one agent's effect, and the step counted. -/
theorem step_effect {s t : State} (h : step s = .next t) (hr : ¬ resetNext s) :
    s.fault = none ∧ ∃ u, t = countStep u ∧ StepEffect s u := by
  have hf := no_fault_of_step h hr
  obtain ⟨u, hu, ht⟩ := onNext_eq_next.1 (step_of_no_fault hf ▸ h)
  exact ⟨hf, u, ht, takeMove_effect hf hr hu⟩

/-- Reset is taken in every state, in the hard fault state too (R250, R251). -/
theorem step_of_reset {s : State} {rest : List Move} (henv : s.env = .rst :: rest) :
    step s = .next (countStep (resetBlock { s with env := rest })) := by
  cases hf : s.fault <;> simp [step, nextMove, takeMove, hf, henv]

/-! ## The invariant at reset -/

/-- Settles O51: every clause is about an empty block. -/
theorem resetMeetsTheInvariant : Obligations.ResetMeetsTheInvariant := fun _ =>
  { mem := rfl
    txRoom := Nat.zero_le _
    rxRoom := Nat.zero_le _
    rxLeTx := le_rfl
    txLeIo := le_rfl
    idle := fun _ => ⟨rfl, rfl, rfl, rfl⟩
    owner := nofun
    txHolds := nofun
    rxHolds := nofun
    disjoint := nofun
    armed := nofun
    uninit := fun _ => ⟨rfl, rfl, rfl, rfl, rfl, rfl, rfl⟩
    cur := trivial
    lines := List.length_replicate
    format := nofun }

/-! ## The invariant and the named operations -/

/-- A shorter TXF agrees with the same `cur` (R39). -/
theorem curAgrees_of_shorter_txf {s : State} {l : List Byte} {sr : Option Byte}
    (hl : l.length ≤ s.link.txf.length) (h : curAgrees s) :
    curAgrees { s with link.txf := l, link.sr := sr } := by
  unfold curAgrees at h ⊢
  dsimp only
  split at h
  · obtain ⟨hbefore, hle, hi, hlt, hburst, hstop, hlen⟩ := h
    exact ⟨hbefore, hle, hi, hlt, hburst, hstop, hl.trans hlen⟩
  · exact h
  · trivial

/-! ## What an accepted SUBMIT hands over -/

/-- The handles of a legal SUBMIT are well-formed and do not overlap (R171). -/
theorem submitLegal_handles {w : Handle} {r : Option Handle} (h : submitLegal w r = true) :
    handleWf w = true ∧ ∀ h, r = some h → handleWf h = true ∧ handlesOverlap w h = false := by
  cases r with
  | none => simpa [submitLegal] using h
  | some h => simpa [submitLegal] using h

theorem ioLength_le_write (n : Word) (w : Handle) (r : Option Handle) :
    (ioLength n w r).toNat ≤ w.len.toNat := by
  cases r <;> simp [ioLength_toNat, ioLenNat, txLenNat]

theorem ioLength_le_read {n : Word} {w h : Handle} {r : Option Handle} (hr : r = some h) :
    (ioLength n w r).toNat ≤ h.len.toNat := by
  simp [hr, ioLength_toNat, ioLenNat]

section
variable {s : State} {w : Handle} {r : Option Handle}

/-- The first burst fits in `tx_offset` (R173). -/
theorem armTransfer_txOffset_toNat (io : Word) :
    (armTransfer w r (firstBurst io) s).xfer.txOffset.toNat = firstBurst io := by
  have := io.isLt
  simp only [armTransfer_xfer_txOffset, BitVec.toNat_ofNat, firstBurst]
  omega

/-- SUBMIT with an empty receive cell leaves there the read handle it was given (R23, R170). -/
theorem armTransfer_rxc {cnt : Nat} (h : s.xfer.rxc = none) : (armTransfer w r cnt s).xfer.rxc = r := by
  cases r <;> simp [armTransfer, h]

/-- With the transmit source disarmed, SUBMIT arms it iff a second burst is needed (R174). -/
theorem armTransfer_ieTx {cnt : Nat} (h : s.regs.ieTx = false) :
    (armTransfer w r cnt s).regs.ieTx = true ↔ cnt < s.xfer.ioLen.toNat := by
  simp [armTransfer, h]

end

section
variable {s : State} (h : Inv s)
include h

theorem Inv.resetBlock : Inv (resetBlock s) :=
  { resetMeetsTheInvariant s.params with mem := h.mem }

theorem Inv.countStep : Inv (countStep s) := { h with }

theorem Inv.respond (st : Status) (d : Word) : Inv (respond st d s) := { h with }

theorem Inv.emitWire (e : WireEvent) : Inv (emitWire e s) := { h with }

/-- A store by the host keeps BUF canonical (R72). -/
theorem Inv.memWrite {a : Nat} (ha : a < Config.bufSize) (v : Byte) :
    Inv { s with mem := memWrite s.mem a v } :=
  { h with mem := Memory.wf_memWrite h.mem ha v }

/-- In an initialised block `cur` may be any value that agrees with the rest of the state. -/
theorem Inv.withCur {c : Cur} (hi : s.inited = true) (hc : curAgrees { s with cur := c }) :
    Inv { s with cur := c } :=
  { h with uninit := by simp [hi], cur := hc }

/-- A hard fault writes its code only (R226). -/
theorem Inv.raiseHardFault (f : HardFault) (hi : s.inited = true) : Inv (raiseHardFault f s) := by
  unfold Machine.raiseHardFault
  split
  · exact { h with owner := nofun, uninit := by simp [hi] }
  · exact h

/-- Releasing the line concerns no clause but that of the block before INIT. -/
theorem Inv.releaseLine : Inv { s with link.csActive := false } :=
  { h with
    uninit := fun hi =>
      let ⟨hb, hc, htx, hrx, hsr, _, hf⟩ := h.uninit hi
      ⟨hb, hc, htx, hrx, hsr, rfl, hf⟩ }

theorem Inv.disturbLine (k : Nat) : Inv (disturbLine k s) := by
  unfold Machine.disturbLine
  split
  · exact h.releaseLine.emitWire _
  · exact h

theorem Inv.writeCsid (v : Word) : Inv (writeCsid v s) := { h.disturbLine 1 with }

theorem Inv.writeCsdef {v : List Bool} (hv : v.length = s.params.ncs) : Inv (writeCsdef v s) :=
  { h.disturbLine 0 with lines := by simp [hv] }

theorem Inv.writeCsHold : Inv (writeCsHold s) := { h with }

theorem Inv.writeCsAuto : Inv (writeCsAuto s) := by
  unfold Machine.writeCsAuto
  split
  · exact Inv.emitWire (s := { s with regs.csmode := .auto, link.csActive := false }) { h.releaseLine with } _
  · exact { h with }

theorem Inv.disarmBoth : Inv (disarmBoth s) :=
  { h with
    idle := fun hb =>
      let ⟨htx, hrx, hio, _⟩ := h.idle hb
      ⟨htx, hrx, hio, rfl⟩
    armed := nofun }

/-- Zero counters fit any handle, with the transmit source disarmed and no refill loop running (R130, R258). -/
theorem Inv.zeroCounters (ht : s.regs.ieTx = false) (hc : s.cur = .none) : Inv (zeroCounters s) :=
  { h with
    rxLeTx := le_rfl
    txLeIo := le_rfl
    idle := fun hb =>
      let ⟨htx, hrx, _, hie⟩ := h.idle hb
      ⟨htx, hrx, rfl, hie⟩
    txHolds := fun w hw => ⟨(h.txHolds w hw).1, Nat.zero_le _⟩
    rxHolds := fun r hr => ⟨(h.rxHolds r hr).1, Nat.zero_le _⟩
    armed := fun ht' => absurd (ht.symm.trans ht') (by simp)
    cur := by simp [curAgrees, Machine.zeroCounters, hc] }

/-- INIT sets up the Register Interface and zeroes the counters, busy or not (R130, R258). -/
theorem Inv.initFields (hc : s.cur = .none) : Inv (initFields s) := by
  have hfmt : Inv { s with regs.pol := 0, regs.pha := 0, regs.fmt := initFormat } :=
    { h with format := fun _ => rfl }
  have hcs := ((hfmt.disarmBoth.writeCsdef (v := List.replicate s.params.ncs true)
    List.length_replicate).writeCsid 0).writeCsHold
  exact { hcs.zeroCounters (by simp) (by simp [hc]) with
    uninit := nofun
    format := fun _ => by simp }

/-- Whatever is in progress or on its way, the block has been initialised (R43). -/
theorem Inv.inited_of_running (hrun : s.cur ≠ .none ∨ s.link.txf ≠ [] ∨ s.link.sr ≠ none) :
    s.inited = true := by
  by_contra hi
  obtain ⟨-, hc, htx, -, hsr, -, -⟩ := h.uninit (by simpa using hi)
  simp [hc, htx, hsr] at hrun

theorem Inv.inited_of_cur {c : Cur} (hc : s.cur = c) (hne : c ≠ .none) : s.inited = true :=
  h.inited_of_running (.inl (hc ▸ hne))

theorem Inv.rxRoom_of_pop {v : Byte} {rest : List Byte} (hrxf : s.link.rxf = v :: rest) :
    rest.length ≤ Config.fifoCapacity := by
  have := h.rxRoom
  rw [hrxf] at this
  exact Nat.le_of_succ_le this

/-- A refill loop runs only during a transfer: its end is above 0 and not above `io_len` (R186). -/
theorem Inv.busy_of_refill {i before stop : Word} (hc : s.cur = .sTxl i before stop) : s.xfer.busy = true := by
  have hagree := h.cur
  simp only [curAgrees, hc] at hagree
  obtain ⟨-, -, -, hlt, -, hstop, -⟩ := hagree
  by_contra hb
  obtain ⟨-, -, hio, -⟩ := h.idle (by simpa using hb)
  simp [hio] at hstop
  omega

/-! ## The invariant and the operations of the Caller -/

/-- A byte operation pushes only where there is room, and it waits in an idle block (R163, R206). -/
theorem Inv.waitForByte (k : ByteKind) (v : Byte) (hi : s.inited = true) (hb : s.xfer.busy = false)
    (hroom : txFull s = false) : Inv { pushTx v s with cur := .bWait k } :=
  { h with
    txRoom := pushTx_keeps_room v h.txRoom hroom
    uninit := by simp [hi]
    cur := hb }

/-- In an idle block all three counters are 0. -/
theorem Inv.idle_counters (hb : s.xfer.busy = false) :
    s.xfer.rxOffset.toNat = 0 ∧ s.xfer.txOffset.toNat = 0 ∧ s.xfer.ioLen.toNat = 0 := by
  obtain ⟨-, -, hio, -⟩ := h.idle hb
  have hio : s.xfer.ioLen.toNat = 0 := by simp [hio]
  have := h.rxLeTx
  have := h.txLeIo
  omega

/-- In an idle block no interrupt source is armed. -/
theorem Inv.idle_disarmed (hb : s.xfer.busy = false) : s.regs.ieTx = false ∧ s.regs.ieRx = false := by
  obtain ⟨-, -, -, hrx⟩ := h.idle hb
  obtain ⟨-, -, hio⟩ := h.idle_counters hb
  exact ⟨by by_contra ht; have := h.armed (by simpa using ht); omega, hrx⟩

/-- SUBMIT's hard faults leave a busy block with empty cells (R170, R231, R233). -/
theorem Inv.submitFault {f : HardFault} {l : List Byte} {io : Word} (hf : s.fault = none) (hi : s.inited = true)
    (hb : s.xfer.busy = false) (hc : s.cur = .none) (hl : l.length ≤ Config.fifoCapacity) :
    Inv (Machine.raiseHardFault f (primed io l s)) := by
  obtain ⟨hw, hr, -, -⟩ := h.idle hb
  obtain ⟨-, htx, -⟩ := h.idle_counters hb
  obtain ⟨hie, -⟩ := h.idle_disarmed hb
  rw [raiseHardFault_of_none (s := primed io l s) f hf]
  exact { h with
    txRoom := hl
    txLeIo := htx ▸ Nat.zero_le _
    idle := nofun
    owner := nofun
    txHolds := fun _ hw' => nomatch hw.symm.trans hw'
    rxHolds := fun _ hr' => nomatch hr.symm.trans hr'
    armed := fun hie' => nomatch hie.symm.trans hie'
    uninit := by simp [primed, hi]
    cur := by simp [curAgrees, primed, hc] }

/-- An accepted SUBMIT hands over legal handles that hold `io_len` bytes, the first burst of them sent (R170 to R174). -/
theorem Inv.submitted {n : Word} {w : Handle} {r : Option Handle} {l : List Byte} (hi : s.inited = true)
    (hb : s.xfer.busy = false) (hc : s.cur = .none) (hlegal : submitLegal w r = true)
    (hl : l.length ≤ Config.fifoCapacity) :
    Inv (armTransfer w r (firstBurst (ioLength n w r)) (primed (ioLength n w r) l s)) := by
  obtain ⟨-, hr, -, -⟩ := h.idle hb
  obtain ⟨hie, -⟩ := h.idle_disarmed hb
  obtain ⟨hwf, hread⟩ := submitLegal_handles hlegal
  have hrxc := armTransfer_rxc (w := w) (r := r) (cnt := firstBurst (ioLength n w r))
    (s := primed (ioLength n w r) l s) hr
  exact { h with
    txRoom := hl
    rxLeTx := Nat.zero_le _
    txLeIo := (armTransfer_txOffset_toNat _).trans_le (Nat.min_le_right ..)
    idle := nofun
    owner := fun _ _ => rfl
    txHolds := by
      rintro _ ⟨⟩
      exact ⟨hwf, ioLength_le_write ..⟩
    rxHolds := fun h' hh =>
      have hh := hrxc.symm.trans hh
      ⟨(hread h' hh).1, ioLength_le_read hh⟩
    disjoint := by
      rintro _ h' ⟨⟩ hh
      exact (hread h' (hrxc.symm.trans hh)).2
    armed := fun ht => (armTransfer_txOffset_toNat _).trans_lt ((armTransfer_ieTx (s := primed _ l s) hie).1 ht)
    uninit := by simp [primed, hi]
    cur := by simp [curAgrees, primed, armTransfer, hc] }

/-- Every operation, taken with the port ready, keeps the invariant. -/
theorem Inv.issue {t : State} {i : Instr} (hf : s.fault = none) (hc : s.cur = .none) (he : IssueEffect s i t) :
    Inv t := by
  cases he with
  | answer st d => exact h.respond st d
  | init => exact (h.initFields hc).respond .ok 0
  | setcs => exact (h.writeCsid _).respond .ok 0
  | rellow => exact h.writeCsAuto.respond .ok 0
  | setclient | setrate | setpol | setpha | holdlow | gpioinit => exact { h with }
  | byteOverflow hi => exact h.raiseHardFault _ hi
  | bytePushed k v hi hb hroom => exact h.waitForByte k v hi hb hroom
  | submitFault f l hi hb hl => exact h.submitFault hf hi hb hc (hl h.txRoom)
  | submitted l hi hb hlegal hl => exact (h.submitted hi hb hc hlegal (hl h.txRoom)).respond .ok 0
  | service hi => exact h.withCur hi trivial

/-! ## The invariant and the micro-steps -/

/-- The end of the drain arms the transmit source only with bytes left to send (R184). -/
theorem Inv.drainEnd (hc : s.cur = .sRxl) : Inv (drainEnd s) := by
  have hi := h.inited_of_cur hc nofun
  unfold Machine.drainEnd
  split
  · exact h.withCur hi trivial
  · next hne =>
    exact { h with
      idle := fun hb =>
        let ⟨htx, hrx, hio, _⟩ := h.idle hb
        ⟨htx, hrx, hio, rfl⟩
      armed := fun _ => lt_of_le_of_ne h.txLeIo (mt BitVec.eq_of_toNat_eq hne)
      uninit := by simp [hi]
      cur := trivial }

/-- A pop of the drain, wherever the byte goes, advances `rx_offset` not past `tx_offset` (R182, R183). -/
theorem Inv.drainPop {v : Byte} {rest : List Byte} (hc : s.cur = .sRxl)
    (hne : s.xfer.rxOffset ≠ s.xfer.txOffset) (hrxf : s.link.rxf = v :: rest) :
    Inv { s with link.rxf := rest, xfer.rxOffset := s.xfer.rxOffset + 1, cur := .sRxl } := by
  have hi := h.inited_of_cur hc nofun
  exact { h with
    rxRoom := h.rxRoom_of_pop hrxf
    rxLeTx := by
      have := h.rxLeTx
      show (s.xfer.rxOffset + 1).toNat ≤ s.xfer.txOffset.toNat
      bv_omega
    uninit := by simp [hi]
    cur := trivial }

/-- The refill loop starts at an empty TXF, with an end above `tx_offset`, at most a burst on and not past `io_len`
(R185). -/
theorem Inv.refillStart (hc : s.cur = .sTxt) (hip : ipTx s = true)
    (hne : burstEnd s.xfer.txOffset s.xfer.ioLen ≠ s.xfer.txOffset) :
    Inv { s with
      cur := .sTxl s.xfer.txOffset s.xfer.txOffset (burstEnd s.xfer.txOffset s.xfer.ioLen) } := by
  refine h.withCur (h.inited_of_cur hc nofun) ?_
  have hend := burstEnd_toNat s.xfer.txOffset s.xfer.ioLen
  have hgt := mt BitVec.eq_of_toNat_eq hne
  have hempty : s.link.txf.length < Config.txMark := by simp_all [ipTx, txLevel]
  have hio := h.txLeIo
  simp only [Config.txMark] at hempty
  simp only [curAgrees, Config.burst, true_and]
  omega

/-- A refill push keeps TXF no longer than the bytes pushed by the loop (R186). -/
theorem Inv.refillPush {i before stop : Word} (v : Byte) (hc : s.cur = .sTxl i before stop)
    (hlt : i.toNat < stop.toNat) (hroom : txFull s = false) :
    Inv { pushTx v s with cur := .sTxl (i + 1) before stop } := by
  have hi := h.inited_of_cur hc nofun
  have hagree := h.cur
  simp only [curAgrees, hc] at hagree
  obtain ⟨hbefore, hle, -, hbs, hburst, hstop, hlen⟩ := hagree
  have hsucc : (i + 1).toNat = i.toNat + 1 := by bv_omega
  exact { h with
    txRoom := pushTx_keeps_room v h.txRoom hroom
    uninit := by simp [hi]
    cur := by
      simp only [curAgrees, pushTx_xfer, pushTx_link_txf, List.length_append, List.length_singleton, hsucc]
      exact ⟨hbefore, by omega, by omega, hbs, hburst, hstop, by omega⟩ }

/-- The exit of the refill loop sets `tx_offset` to the loop's end and swaps the sources (R186). -/
theorem Inv.refillEnd {before stop : Word} (hc : s.cur = .sTxl stop before stop) :
    Inv (refillEnd before stop s) := by
  have hi := h.inited_of_cur hc nofun
  have hbusy := h.busy_of_refill hc
  have hagree := h.cur
  simp only [curAgrees, hc] at hagree
  obtain ⟨hbefore, hle, -, -, -, hstop, -⟩ := hagree
  exact { h with
    rxLeTx := h.rxLeTx.trans (hbefore ▸ hle)
    txLeIo := hstop
    idle := fun hb => nomatch hbusy.symm.trans hb
    armed := nofun
    uninit := by simp [hi]
    cur := trivial }

theorem Inv.completionStart : Inv (completionStart s) := h.writeCsAuto.writeCsHold.disarmBoth

/-- The completion without a client is a hard fault with the cells already taken (R230). -/
theorem Inv.completionNoClient (hf : s.fault = none) (hc : s.cur = .sFin) :
    Inv (Machine.raiseHardFault .noClient (takeCells s)) := by
  have hi := h.inited_of_cur hc nofun
  rw [raiseHardFault_of_none (s := takeCells s) _ hf]
  exact { h with
    idle := fun hb =>
      let ⟨_, _, hio, hie⟩ := h.idle hb
      ⟨rfl, rfl, hio, hie⟩
    owner := nofun
    txHolds := nofun
    rxHolds := nofun
    disjoint := nofun
    uninit := by simp [hi] }

/-- The completion leaves an idle block (R188). -/
theorem Inv.completed {d : Completion} (hc : s.cur = .sFin) (ht : s.regs.ieTx = false) (hr : s.regs.ieRx = false) :
    Inv { Machine.zeroCounters (emitDone d (takeCells s)) with xfer.busy := false, cur := .none } := by
  have hi := h.inited_of_cur hc nofun
  exact { h with
    rxLeTx := le_rfl
    txLeIo := le_rfl
    idle := fun _ => ⟨rfl, rfl, rfl, hr⟩
    owner := nofun
    txHolds := nofun
    rxHolds := nofun
    disjoint := nofun
    armed := fun ht' => nomatch ht.symm.trans ht'
    uninit := by simp [hi]
    cur := trivial }

/-- A byte operation's answer takes one byte from RXF (R163). -/
theorem Inv.waitEnd {r : Byte} {rest : List Byte} {k : ByteKind} (hc : s.cur = .bWait k)
    (hrxf : s.link.rxf = r :: rest) : Inv { s with link.rxf := rest, cur := .none } := by
  have hi := h.inited_of_cur hc nofun
  exact { h with
    rxRoom := h.rxRoom_of_pop hrxf
    uninit := by simp [hi]
    cur := trivial }

/-- Every micro-step keeps the invariant. -/
theorem Inv.micro {t : State} (hf : s.fault = none) (he : MicroEffect s t) : Inv t := by
  cases he with
  | nothing => exact h
  | rxTested hc => exact h.withCur (h.inited_of_cur hc nofun) (by dsimp only [curAgrees]; cases ipRx s <;> trivial)
  | drainEnded hc => exact h.drainEnd hc
  | drainFault hc => exact h.raiseHardFault _ (h.inited_of_cur hc nofun)
  | byteDropped hc hne hrxf => exact h.drainPop hc hne hrxf
  | byteStored hc hne hrxf ha => exact (h.drainPop hc hne hrxf).memWrite ha _
  | txFlagClear hc => exact h.withCur (h.inited_of_cur hc nofun) trivial
  | refillFault f hc => exact h.raiseHardFault f (h.inited_of_cur rfl hc)
  | refillStarted hc hip hne => exact h.refillStart hc hip hne
  | bytePushed v hc hlt hroom => exact h.refillPush v hc hlt hroom
  | refillEnded hc => exact h.refillEnd hc
  | completionNoBuffer hc => exact h.completionStart.raiseHardFault _ (by simpa using h.inited_of_cur hc nofun)
  | completionNoClient hc => exact h.completionStart.completionNoClient (by simpa using hf) (by simpa using hc)
  | completed hc hw hid =>
    exact (h.completionStart.completed (by simpa using hc) (by simp) (by simp)).respond .ok 0
  | passEnded hc => exact (h.withCur (c := .none) (h.inited_of_cur hc nofun) trivial).respond .ok 0
  | waitEnded d hc hrxf => exact (h.waitEnd hc hrxf).respond .ok d

/-! ## The invariant and the Shifter -/

/-- The line is asserted only in an initialised block. -/
theorem Inv.assertLine (hi : s.inited = true) : Inv (assertLine s) := by
  unfold Machine.assertLine
  split
  · exact h
  · exact Inv.emitWire (s := { s with link.csActive := true })
      { h with uninit := by simp [hi] } _

/-- `S1` takes the head of TXF (R209). -/
theorem Inv.shiftOut : Inv (shiftOut s) := by
  unfold Machine.shiftOut
  split
  · next b rest hsr htxf =>
    have hi := h.inited_of_running (.inr (.inl (by simp [htxf])))
    have hlen : rest.length ≤ s.link.txf.length := by simp [htxf]
    refine Inv.assertLine (s := { s with link.txf := rest, link.sr := some b }) ?_ hi
    exact { h with
      txRoom := hlen.trans h.txRoom
      uninit := by simp [hi]
      cur := curAgrees_of_shorter_txf hlen h.cur }
  · exact h
  · exact h

theorem Inv.releaseIfAuto : Inv (releaseIfAuto s) := by
  unfold Machine.releaseIfAuto
  split
  · exact h
  · exact h.releaseLine.emitWire _

/-- `S2` appends the answer where there is room, and else is a hard fault (R210). -/
theorem Inv.shiftIn (p : Byte) : Inv (shiftIn p s) := by
  unfold Machine.shiftIn
  split
  · exact h
  · next b hsr =>
    have hi := h.inited_of_running (.inr (.inr (by simp [hsr])))
    split
    · exact h.raiseHardFault _ hi
    · next hfull =>
      refine Inv.releaseIfAuto (Inv.emitWire ?_ _)
      exact { h with
        rxRoom := by
          have := h.rxRoom
          simp only [rxFull, decide_eq_true_eq] at hfull
          simp only [List.length_append, List.length_singleton]
          omega
        uninit := by simp [hi] }

/-! ## The invariant and the step -/

/-- Every step but reset keeps the invariant. -/
theorem Inv.agent {t : State} (hf : s.fault = none) (he : StepEffect s t) : Inv t := by
  cases he with
  | sequencer rest he => exact (h.withEnv rest).micro hf he
  | issued rest hi he =>
    obtain ⟨-, hc, -⟩ := hi
    exact (h.withEnv rest).issue hf hc he
  | unknownCommand rest => exact (h.withEnv rest).respond .illegal 0
  | frameStart rest => exact (h.withEnv rest).shiftOut
  | frameEnd rest p => exact (h.withEnv rest).shiftIn p
  | hostLoaded rest => exact h.withEnv rest
  | hostStored rest a v => exact (h.withEnv rest).memWrite a.isLt v

end

/-- Settles O52: each agent's effect keeps the invariant, and reset starts it anew. -/
theorem everyStepKeepsTheInvariant : Obligations.EveryStepKeepsTheInvariant := by
  intro s t h hstep
  by_cases hr : resetNext s
  · obtain ⟨rest, henv⟩ := hr
    rw [step_of_reset henv] at hstep
    cases hstep
    exact (h.withEnv rest).resetBlock.countStep
  · obtain ⟨hf, u, rfl, he⟩ := step_effect hstep hr
    exact (h.agent hf he).countStep

/-! ## The reset values, the flags and the interrupt enables -/

/-- Settles O46: each value stands in `State.resetWith`, the two outputs follow from `cur` and `fault`. -/
theorem resetStateHasTheSpecifiedValues : Obligations.ResetStateHasTheSpecifiedValues :=
  fun _ => ⟨rfl, rfl, rfl, rfl, rfl, rfl, rfl, rfl, rfl, rfl, rfl, rfl, rfl, rfl, rfl, rfl, rfl⟩

/-- Settles O48: the definitions of the flags, read as propositions. -/
theorem irqIsTheOrOfThePendingFlags : Obligations.IrqIsTheOrOfThePendingFlags := by
  refine fun s => ⟨?_, ?_, fun hi => ?_⟩
  · simp [ipRx, rxLevel]
  · simp [ipTx, txLevel, Config.txMark]
  · simp [irq, hi]

/-- The two enable bits (R32). -/
def enables (s : State) : Bool × Bool := (s.regs.ieTx, s.regs.ieRx)

/-- Of the operations only INIT and SUBMIT write an enable bit (R32, R235). -/
theorem IssueEffect.enables_eq {s t : State} {i : Instr} (h : IssueEffect s i t) :
    i = .init ∨ (∃ n w r, i = .submit n w r) ∨ enables t = enables s := by
  cases h with
  | init => exact .inl rfl
  | submitFault | submitted => exact .inr (.inl ⟨_, _, _, rfl⟩)
  | _ => exact .inr (.inr (by simp [enables]))

/-- Of the micro-steps only those of the drain, the refill and the completion check write one (R32, R235). -/
theorem MicroEffect.enables_eq {s t : State} (h : MicroEffect s t) :
    s.cur = .sRxl ∨ (∃ i before stop, s.cur = .sTxl i before stop) ∨ s.cur = .sFin ∨ enables t = enables s := by
  cases h with
  | drainEnded hc => exact .inl hc
  | refillEnded hc => exact .inr (.inl ⟨_, _, _, hc⟩)
  | completionNoBuffer hc | completionNoClient hc | completed hc => exact .inr (.inr (.inl hc))
  | _ => exact .inr (.inr (.inr (by simp [enables])))

/-- Settles O49: every effect but those of the listed writers leaves both bits. -/
theorem interruptEnablesHaveOnlyTheseWriters : Obligations.InterruptEnablesHaveOnlyTheseWriters := by
  intro s t hstep hne
  by_cases hr : resetNext s
  · exact .inl hr
  obtain ⟨-, u, rfl, he⟩ := step_effect hstep hr
  have hkept : enables u ≠ enables s := by
    rcases hne with hne | hne
    · exact fun h => hne (congrArg Prod.fst h)
    · exact fun h => hne (congrArg Prod.snd h)
  cases he with
  | sequencer rest he =>
    rcases he.enables_eq with hc | hc | hc | heq
    · exact .inr (.inr (.inr (.inl hc)))
    · exact .inr (.inr (.inr (.inr (.inl hc))))
    · exact .inr (.inr (.inr (.inr (.inr hc))))
    · exact absurd heq hkept
  | issued rest hi he =>
    rcases he.enables_eq with rfl | ⟨n, w, r, rfl⟩ | heq
    · exact .inr (.inl hi)
    · exact .inr (.inr (.inl ⟨n, w, r, hi⟩))
    · exact absurd heq hkept
  | unknownCommand | frameStart | frameEnd | hostLoaded | hostStored => exact absurd (by simp [enables]) hkept

/-! ## What happens to a transfer -/

/-- An `Issue` step emits no completion record and does not clear `busy`. -/
theorem IssueEffect.keeps_busy {s t : State} {i : Instr} (h : IssueEffect s i t) :
    t.ports.completions = s.ports.completions ∧ (s.xfer.busy = true → t.xfer.busy = true) := by
  cases h with
  | submitFault | submitted => exact ⟨by simp [primed, armTransfer], fun _ => by simp [primed, armTransfer]⟩
  | _ => exact ⟨by simp, fun hb => by simpa using hb⟩

/-- The completion: the check finds the whole transfer exchanged, and one record is emitted (R188, R107). -/
def Completes (s t : State) : Prop :=
  s.cur = .sFin ∧ t.xfer = { busy := false, txc := none, rxc := none, ioLen := 0, txOffset := 0, rxOffset := 0 } ∧
    ∃ w id, s.xfer.txc = some w ∧ s.client = some id ∧
      t.ports.completions = s.ports.completions ++
        [{ client := id, w := w, r := s.xfer.rxc, len := s.xfer.ioLen, status := .success }]

/-- A micro-step completes the transfer, or it emits no completion record and does not clear `busy`. -/
theorem MicroEffect.completes_or_keeps_busy {s t : State} (h : MicroEffect s t) :
    Completes s t ∨ (t.ports.completions = s.ports.completions ∧ (s.xfer.busy = true → t.xfer.busy = true)) := by
  cases h with
  | completed hc hw hid => exact .inl ⟨hc, rfl, _, _, hw, hid, by simp [zeroCounters, takeCells]⟩
  | completionNoClient => exact .inr ⟨by simp [takeCells], fun hb => by simpa [takeCells] using hb⟩
  | refillEnded => exact .inr ⟨rfl, id⟩
  | _ => exact .inr ⟨by simp, fun hb => by simpa using hb⟩

/-- A step but reset completes the transfer, or it emits no completion record and does not clear `busy`. -/
theorem StepEffect.completes_or_keeps_busy {s t : State} (h : StepEffect s t) :
    Completes s t ∨ (t.ports.completions = s.ports.completions ∧ (s.xfer.busy = true → t.xfer.busy = true)) := by
  cases h with
  | sequencer rest h => exact h.completes_or_keeps_busy
  | issued rest hi h => exact .inr h.keeps_busy
  | unknownCommand | frameStart | frameEnd | hostLoaded | hostStored =>
    exact .inr ⟨by simp, fun hb => by simpa using hb⟩

/-- Settles O58: the completion is the one step that emits a record, and a block with an owned buffer is busy. -/
theorem busyEndsOnlyWithOneCompletion : Obligations.BusyEndsOnlyWithOneCompletion := by
  refine ⟨⟨rfl, rfl⟩, fun s t h hstep hr => ?_⟩
  obtain ⟨-, u, rfl, he⟩ := step_effect hstep hr
  rcases he.completes_or_keeps_busy with ⟨hc, hx, w, id, hw, hid, hd⟩ | hkept
  · have hbusy : s.xfer.busy = true := by
      by_contra hb
      obtain ⟨hnone, -⟩ := h.idle (by simpa using hb)
      exact nomatch hnone.symm.trans hw
    exact .inl (by simp [countStep, hx, hbusy, hc, hw, hid, hd])
  · exact .inr hkept

/-- The transfer went on: its offsets did not decrease, its length and its handles are as they were (R22). -/
def Advances (s t : State) : Prop :=
  s.xfer.rxOffset.toNat ≤ t.xfer.rxOffset.toNat ∧ s.xfer.txOffset.toNat ≤ t.xfer.txOffset.toNat ∧
    t.xfer.ioLen = s.xfer.ioLen ∧ t.xfer.txc = s.xfer.txc ∧ t.xfer.rxc = s.xfer.rxc

theorem Advances.of_xfer_eq {s t : State} (h : t.xfer = s.xfer) : Advances s t := by
  simp [Advances, h]

/-- A command taken during a transfer, INIT apart, does not touch it: SUBMIT is answered BUSY (R221). -/
theorem IssueEffect.advances {s t : State} {i : Instr} (h : IssueEffect s i t) (hb : s.xfer.busy = true)
    (hi : i ≠ .init) : Advances s t := by
  cases h with
  | init => exact absurd rfl hi
  | submitFault f l _ hidle => exact nomatch hb.symm.trans hidle
  | submitted l _ hidle => exact nomatch hb.symm.trans hidle
  | _ => exact .of_xfer_eq (by simp)

/-- A pop of the drain counts one byte: below `tx_offset` the offset does not wrap. -/
theorem Inv.advances_of_pop {s t : State} (h : Inv s) (hne : s.xfer.rxOffset ≠ s.xfer.txOffset)
    (hx : t.xfer = { s.xfer with rxOffset := s.xfer.rxOffset + 1 }) : Advances s t := by
  have := h.rxLeTx
  simp only [Advances, hx, and_self, and_true, le_refl]
  bv_omega

/-- A micro-step that neither completes the transfer nor is a hard fault advances it. -/
theorem MicroEffect.advances {s t : State} (he : MicroEffect s t) (h : Inv s) (hb : t.xfer.busy = true)
    (hf : t.fault = none) : Advances s t := by
  cases he with
  | byteDropped _ hne => exact h.advances_of_pop hne rfl
  | byteStored _ hne => exact h.advances_of_pop hne rfl
  | refillEnded hc =>
    have hagree := h.cur
    simp only [curAgrees, hc] at hagree
    obtain ⟨hbefore, hle, -⟩ := hagree
    exact ⟨le_rfl, hbefore ▸ hle, rfl, rfl, rfl⟩
  | completionNoClient => simp at hf
  | completed => exact nomatch hb
  | _ => exact .of_xfer_eq (by simp)

/-- Settles O59: during a transfer only the drain and the refill move an offset, forwards. -/
theorem transferAdvancesMonotonically : Obligations.TransferAdvancesMonotonically := by
  intro s t h hstep hb hb' hf' hinit
  by_cases hr : resetNext s
  · obtain ⟨rest, henv⟩ := hr
    rw [step_of_reset henv] at hstep
    cases hstep
    exact nomatch hb'
  · obtain ⟨-, u, rfl, he⟩ := step_effect hstep hr
    suffices hadv : Advances s u from hadv
    cases he with
    | sequencer rest he => exact he.advances (h.withEnv rest) hb' hf'
    | issued rest hi he => exact he.advances hb (by rintro rfl; exact hinit ⟨hb, hi⟩)
    | unknownCommand | frameStart | frameEnd | hostLoaded | hostStored => exact .of_xfer_eq (by simp)

/-! ## The settings that move no data -/

/-- `s` with the clock settings, the frame format, the delay and flash controls, the pins and the data of the responses
blanked (R26, R27, R29, R30, R201). -/
def dataPart (s : State) : State :=
  { s with
    regs := { s.regs with div := 0, divSet := false, pol := 0, pha := 0, fmt := initFormat, delay := 0, fctrl := 0 }
    pinfn := 0
    ports.responses := s.ports.responses.map fun r => { r with data := 0 } }

@[simp] theorem dataPart_xfer (s : State) : (dataPart s).xfer = s.xfer := rfl
@[simp] theorem dataPart_client (s : State) : (dataPart s).client = s.client := rfl
@[simp] theorem dataPart_link (s : State) : (dataPart s).link = s.link := rfl
@[simp] theorem dataPart_fault (s : State) : (dataPart s).fault = s.fault := rfl
@[simp] theorem dataPart_cur (s : State) : (dataPart s).cur = s.cur := rfl
@[simp] theorem dataPart_env (s : State) : (dataPart s).env = s.env := rfl
@[simp] theorem txFull_dataPart (s : State) : txFull (dataPart s) = txFull s := rfl
@[simp] theorem rxFull_dataPart (s : State) : rxFull (dataPart s) = rxFull s := rfl

/-- What `f` does to the rest of the state does not depend on what is blanked. -/
def IgnoresSettings (f : State → State) : Prop := ∀ s, dataPart (f (dataPart s)) = dataPart (f s)

/-- Blanked states have the same outcome of `f` once it is blanked too. -/
def OutcomeIgnoresSettings (f : State → Result) : Prop :=
  ∀ s, onNext dataPart (f (dataPart s)) = onNext dataPart (f s)

theorem IgnoresSettings.comp {f g : State → State} (hg : IgnoresSettings g) (hf : IgnoresSettings f) :
    IgnoresSettings fun s => g (f s) := fun s => by
  rw [← hg (f (dataPart s)), hf, hg]

theorem IgnoresSettings.next {f : State → State} (hf : IgnoresSettings f) :
    OutcomeIgnoresSettings fun s => .next (f s) := fun s => congrArg Host.Outcome.next (hf s)

theorem OutcomeIgnoresSettings.ite {f g : State → Result} {p : State → Prop} [∀ s, Decidable (p s)]
    (hp : ∀ s, p (dataPart s) ↔ p s) (hf : OutcomeIgnoresSettings f) (hg : OutcomeIgnoresSettings g) :
    OutcomeIgnoresSettings fun s => if p s then f s else g s := fun s => by
  by_cases h : p s
  · simpa only [if_pos h, if_pos ((hp s).2 h)] using hf s
  · simpa only [if_neg h, if_neg (mt (hp s).1 h)] using hg s

/-! ### The named operations -/

theorem dataPart_ignores : IgnoresSettings fun s => s := fun s => by simp [dataPart]

theorem respond_ignores (st : Status) (d : State → Word) : IgnoresSettings fun s => respond st (d s) s :=
  fun s => by simp [dataPart, respond]

theorem raiseHardFault_ignores (f : HardFault) : IgnoresSettings (raiseHardFault f) := fun s => by
  cases hf : s.fault <;> simp [raiseHardFault, dataPart, hf]

theorem disturbLine_ignores (k : Nat) : IgnoresSettings (disturbLine k) := fun s => by
  by_cases h : s.link.csActive = true ∧ Config.drawCs s.tick k = false <;>
    simp [disturbLine, dataPart, emitWire, h]

theorem withCur_ignores (c : Cur) : IgnoresSettings fun s => { s with cur := c } := fun s => by simp [dataPart]

theorem writeCsid_ignores (v : Word) : IgnoresSettings (writeCsid v) :=
  IgnoresSettings.comp (g := fun s => { s with regs.csid := v }) (fun s => by simp [dataPart]) (disturbLine_ignores 1)

theorem writeCsAuto_ignores : IgnoresSettings writeCsAuto := fun s => by
  by_cases h : s.link.csActive = true ∧ s.link.sr = none <;> simp [writeCsAuto, dataPart, emitWire, h]

theorem writeCsHold_ignores : IgnoresSettings writeCsHold := fun s => by simp [writeCsHold, dataPart]

theorem disarmBoth_ignores : IgnoresSettings disarmBoth := fun s => by simp [disarmBoth, dataPart]

theorem completionStart_ignores : IgnoresSettings completionStart :=
  disarmBoth_ignores.comp (writeCsHold_ignores.comp writeCsAuto_ignores)

theorem writeCsdef_ignores (v : List Bool) : IgnoresSettings (writeCsdef v) :=
  IgnoresSettings.comp (g := fun s => { s with regs.csdef := v }) (fun s => by simp [dataPart]) (disturbLine_ignores 0)

theorem zeroCounters_ignores : IgnoresSettings zeroCounters := fun s => by simp [zeroCounters, dataPart]

/-- INIT is its writes, one after another (R130). -/
theorem initFields_ignores : IgnoresSettings initFields := by
  have hclock : IgnoresSettings fun s => { s with regs.pol := 0, regs.pha := 0, regs.fmt := initFormat } :=
    fun s => by simp [dataPart]
  have hcsdef : IgnoresSettings fun s => writeCsdef (List.replicate s.params.ncs true) s :=
    fun s => writeCsdef_ignores (List.replicate s.params.ncs true) s
  have hinited : IgnoresSettings fun s => { s with inited := true } := fun s => by simp [dataPart]
  exact hinited.comp <| zeroCounters_ignores.comp <| writeCsHold_ignores.comp <| (writeCsid_ignores 0).comp <|
    hcsdef.comp <| disarmBoth_ignores.comp hclock

theorem whenInited_ignores {k : State → Result} (hk : OutcomeIgnoresSettings k) :
    OutcomeIgnoresSettings fun s => whenInited s (k s) :=
  .ite (fun _ => .rfl) hk (respond_ignores .illegal fun _ => 0).next

theorem whenIdle_ignores {k : State → Result} (hk : OutcomeIgnoresSettings k) :
    OutcomeIgnoresSettings fun s => whenIdle s (k s) :=
  .ite (fun _ => .rfl) (respond_ignores .busy fun _ => 0).next hk

/-! ### The operations -/

theorem byteExchange_ignores (k : ByteKind) (v : Byte) : OutcomeIgnoresSettings (byteExchange k v) :=
  whenInited_ignores <| whenIdle_ignores <| .ite (fun _ => .rfl) (raiseHardFault_ignores _).next <|
    IgnoresSettings.next fun s => by simp [pushTx, dataPart]

/-- The priming pushes take the same course (R206). -/
theorem pushBytes_dataPart (bs : List Byte) (s : State) :
    ∃ t, (pushBytes bs s = .ok t ∧ pushBytes bs (dataPart s) = .ok (dataPart t)) ∨
      (pushBytes bs s = .error t ∧ pushBytes bs (dataPart s) = .error (dataPart t)) := by
  induction bs generalizing s with
  | nil => exact ⟨s, .inl ⟨rfl, rfl⟩⟩
  | cons b bs ih =>
    unfold pushBytes
    rw [txFull_dataPart]
    split
    · exact ⟨s, .inr ⟨rfl, rfl⟩⟩
    · exact ih (pushTx b s)

theorem armTransfer_ignores (w : Handle) (r : Option Handle) (cnt : Nat) : IgnoresSettings (armTransfer w r cnt) :=
  fun s => by cases r <;> simp [armTransfer, dataPart] <;> rfl

theorem pushBytes_ignores (bs : List Byte) {f g : State → State} (hf : IgnoresSettings f) (hg : IgnoresSettings g) :
    OutcomeIgnoresSettings fun s =>
      match pushBytes bs s with
      | .error t => .next (f t)
      | .ok t => .next (g t) := fun s => by
  obtain ⟨t, ⟨hs, hd⟩ | ⟨hs, hd⟩⟩ := pushBytes_dataPart bs s <;> simp only [hs, hd]
  · exact hg.next t
  · exact hf.next t

theorem acceptSubmit_ignores (n : Word) (w : Handle) (r : Option Handle) :
    OutcomeIgnoresSettings (acceptSubmit n w r) := fun s => by
  have hfault (f : HardFault) := raiseHardFault_ignores f
  have harm (cnt : Nat) := (respond_ignores .ok fun _ => 0).comp (armTransfer_ignores w r cnt)
  unfold acceptSubmit
  dsimp only
  split
  · exact (hfault _).next { s with xfer.busy := true, xfer.ioLen := ioLength n w r }
  · exact pushBytes_ignores _ (hfault _) (harm _) { s with xfer.busy := true, xfer.ioLen := ioLength n w r }

theorem execSubmit_ignores (n : Word) (w : Handle) (r : Option Handle) :
    OutcomeIgnoresSettings (execSubmit n w r) :=
  whenInited_ignores <| .ite (fun _ => .rfl)
    (.ite (fun _ => .rfl) (respond_ignores .inval fun _ => 0).next (whenIdle_ignores (acceptSubmit_ignores n w r)))
    (respond_ignores .illegal fun _ => 0).next

theorem execSetclient_ignores (id : Word) : OutcomeIgnoresSettings (execSetclient id) := fun s => by
  simp only [execSetclient, dataPart_client]
  split
  · exact (respond_ignores .illegal fun _ => 0).next s
  · exact congrArg Host.Outcome.next (by simp [dataPart, respond])

theorem exec_ignores (i : Instr) : OutcomeIgnoresSettings (exec i) := by
  cases i with
  | init => exact ((respond_ignores .ok fun _ => 0).comp initFields_ignores).next
  | setclient id => exact execSetclient_ignores id
  | isbusy => exact (respond_ignores .ok fun s => zextBit s.xfer.busy).next
  | setcs id => exact whenInited_ignores ((respond_ignores .ok fun _ => 0).comp (writeCsid_ignores id)).next
  | setrate hz =>
    exact whenInited_ignores <| .ite (fun _ => .rfl)
      (whenIdle_ignores <| IgnoresSettings.next fun s => by simp [dataPart, respond])
      (respond_ignores .inval fun _ => 0).next
  | getrate => exact whenInited_ignores (respond_ignores .ok fun s => dividedRate (divisor s)).next
  | getpol => exact whenInited_ignores (respond_ignores .ok fun s => zext s.regs.pol).next
  | getpha => exact whenInited_ignores (respond_ignores .ok fun s => zext s.regs.pha).next
  | setpol | setpha =>
    exact whenInited_ignores <| whenIdle_ignores <| IgnoresSettings.next fun s => by simp [dataPart, respond]
  | holdlow => exact whenInited_ignores ((respond_ignores .ok fun _ => 0).comp writeCsHold_ignores).next
  | rellow => exact whenInited_ignores ((respond_ignores .ok fun _ => 0).comp writeCsAuto_ignores).next
  | wrbyte v => exact byteExchange_ignores .wr v
  | rdbyte => exact byteExchange_ignores .rd 0
  | rwbyte v => exact byteExchange_ignores .rw v
  | submit n w r => exact execSubmit_ignores n w r
  | service => exact whenInited_ignores (withCur_ignores .sRxt).next
  | gpioinit => exact IgnoresSettings.next fun s => by simp [dataPart, respond]

theorem issueCmd_ignores (c : CmdWord) : OutcomeIgnoresSettings (issueCmd c) := by
  unfold issueCmd
  cases decode c with
  | ok i => exact exec_ignores i
  | illegal why => exact (respond_ignores .illegal fun _ => 0).next

/-! ### The micro-steps -/

theorem drainEnd_ignores : IgnoresSettings drainEnd := fun s => by
  by_cases h : s.xfer.txOffset = s.xfer.ioLen <;> simp [drainEnd, dataPart, h]

theorem microRxTest_ignores : OutcomeIgnoresSettings microRxTest := fun s => (withCur_ignores _).next s

theorem microDrain_ignores : OutcomeIgnoresSettings microDrain := by
  refine .ite (fun _ => .rfl) drainEnd_ignores.next fun s => ?_
  simp only [dataPart_link, dataPart_xfer]
  split
  · exact (raiseHardFault_ignores .rxFifoEmpty).next s
  · split
    · exact congrArg Host.Outcome.next (by simp [dataPart])
    · unfold atAddress
      split
      · exact congrArg Host.Outcome.next (by simp [dataPart])
      · rfl

theorem microTxTest_ignores : OutcomeIgnoresSettings microTxTest :=
  .ite (fun _ => .rfl)
    (.ite (fun _ => .rfl) (raiseHardFault_ignores .watermarkUnderflow).next
      (IgnoresSettings.next fun s => by simp [dataPart]))
    (withCur_ignores .sFin).next

theorem microRefill_ignores (i before stop : Word) : OutcomeIgnoresSettings (microRefill i before stop) := by
  refine .ite (fun _ => .rfl) (.ite (fun _ => .rfl) (raiseHardFault_ignores .txFifoFull).next fun s => ?_)
    (.ite (fun _ => .rfl) (IgnoresSettings.next fun s => by simp [refillEnd, dataPart]) fun s => rfl)
  simp only [dataPart_xfer]
  split
  · exact (raiseHardFault_ignores .noTxBuffer).next s
  · unfold atAddress
    split
    · exact congrArg Host.Outcome.next (by simp [pushTx, dataPart])
    · rfl

theorem takeCells_ignores : IgnoresSettings takeCells := fun s => by simp [takeCells, dataPart]

/-- The end of the completion: the record, the counters, `busy` and the response (R188). -/
theorem completionEnd_ignores (id : Word) (w : Handle) (r : Option Handle) :
    IgnoresSettings fun s => respond .ok 0
      { zeroCounters (emitDone { client := id, w := w, r := r, len := s.xfer.ioLen, status := .success } s) with
        xfer.busy := false, cur := .none } := fun s => by
  simp [respond, zeroCounters, emitDone, dataPart]

theorem completeTransfer_ignores : OutcomeIgnoresSettings completeTransfer := fun s => by
  have hclient (s : State) : (takeCells (completionStart s)).client = s.client := completionStart_client s
  have htaken := takeCells_ignores.comp completionStart_ignores
  simp only [completeTransfer, completionStart_xfer, hclient, dataPart_xfer, dataPart_client]
  split
  · exact ((raiseHardFault_ignores .noTxBuffer).comp completionStart_ignores).next s
  · split
    · exact ((raiseHardFault_ignores .noClient).comp htaken).next s
    · exact ((completionEnd_ignores _ _ _).comp htaken).next s

theorem microFinish_ignores : OutcomeIgnoresSettings microFinish :=
  .ite (fun _ => .rfl) completeTransfer_ignores (IgnoresSettings.next fun s => by simp [dataPart, respond])

theorem microByteWait_ignores (k : ByteKind) : OutcomeIgnoresSettings (microByteWait k) := fun s => by
  simp only [microByteWait, dataPart_link]
  split
  · exact dataPart_ignores.next s
  · exact congrArg Host.Outcome.next (by simp [dataPart, respond])

theorem microStep_ignores : OutcomeIgnoresSettings microStep := fun s => by
  unfold microStep
  rw [dataPart_cur]
  split
  case h_1 => exact dataPart_ignores.next s
  case h_2 => exact microRxTest_ignores s
  case h_3 => exact microDrain_ignores s
  case h_4 => exact microTxTest_ignores s
  case h_5 => exact microRefill_ignores _ _ _ s
  case h_6 => exact microFinish_ignores s
  case h_7 => exact microByteWait_ignores _ s

/-! ### The step -/

theorem assertLine_ignores : IgnoresSettings assertLine := fun s => by
  cases h : s.link.csActive <;> simp [assertLine, dataPart, emitWire, h]

theorem releaseIfAuto_ignores : IgnoresSettings releaseIfAuto := fun s => by
  cases h : s.regs.csmode <;> simp [releaseIfAuto, dataPart, emitWire, h]

theorem shiftOut_ignores : IgnoresSettings shiftOut := fun s => by
  simp only [shiftOut, dataPart_link]
  split
  · next b rest _ _ => exact assertLine_ignores { s with link.txf := rest, link.sr := some b }
  · exact dataPart_ignores s
  · exact dataPart_ignores s

theorem shiftIn_ignores (p : Byte) : IgnoresSettings (shiftIn p) := fun s => by
  unfold shiftIn
  rw [dataPart_link, rxFull_dataPart]
  split
  · exact dataPart_ignores s
  · next b _ =>
    split
    · exact raiseHardFault_ignores .rxOverrun s
    · exact releaseIfAuto_ignores (emitWire (.frame b (peerAnswer s b p))
        { s with link.rxf := s.link.rxf ++ [peerAnswer s b p], link.sr := none })

theorem resetBlock_ignores : IgnoresSettings resetBlock := fun s => by simp [resetBlock, dataPart]

theorem hostStore_ignores (a : Word) (v : Byte) : OutcomeIgnoresSettings (hostStore a v) :=
  .ite (fun _ => .rfl) (fun _ => rfl) (IgnoresSettings.next fun s => by simp [dataPart])

theorem hostLoad_ignores (a : Word) : OutcomeIgnoresSettings (hostLoad a) :=
  .ite (fun _ => .rfl) (fun _ => rfl) dataPart_ignores.next

theorem whenReady_ignores {k : State → Result} (hk : OutcomeIgnoresSettings k) :
    OutcomeIgnoresSettings fun s => whenReady s (k s) :=
  .ite (fun _ => .rfl) hk microStep_ignores

theorem takeMove_ignores : OutcomeIgnoresSettings takeMove := fun s => by
  have hpop (rest : List Move) {k : State → Result} (hk : OutcomeIgnoresSettings k) :
      OutcomeIgnoresSettings fun s => k { s with env := rest } := fun s => hk { s with env := rest }
  unfold takeMove
  rw [dataPart_env]
  split
  case h_1 => exact microStep_ignores s
  case h_2 c rest _ => exact whenReady_ignores (hpop rest (issueCmd_ignores c)) s
  case h_3 rest _ => exact hpop rest microStep_ignores s
  case h_4 rest _ => exact hpop rest shiftOut_ignores.next s
  case h_5 p rest _ => exact hpop rest (shiftIn_ignores p).next s
  case h_6 rest _ => exact hpop rest resetBlock_ignores.next s
  case h_7 a rest _ => exact whenReady_ignores (hpop rest (hostLoad_ignores a)) s
  case h_8 a v rest _ => exact whenReady_ignores (hpop rest (hostStore_ignores a v)) s

theorem nextMove_ignores : OutcomeIgnoresSettings nextMove := fun s => by
  simp only [nextMove, dataPart_fault, dataPart_env]
  split
  · exact takeMove_ignores s
  · split
    · next rest _ => exact resetBlock_ignores.next { s with env := rest }
    · rfl

/-- Counting a step and blanking change different parts. -/
theorem onNext_dataPart_countStep (o : Result) :
    onNext dataPart (onNext countStep o) = onNext countStep (onNext dataPart o) := by
  cases o <;> rfl

theorem step_ignores : OutcomeIgnoresSettings step := fun s => by
  unfold step
  rw [onNext_dataPart_countStep, nextMove_ignores, ← onNext_dataPart_countStep]

/-- States that agree but in what is blanked take steps that agree but in what is blanked. -/
theorem step_of_dataPart_eq {s s' t : State} (heq : dataPart s' = dataPart s) (h : step s = .next t) :
    ∃ t', step s' = .next t' ∧ dataPart t' = dataPart t := by
  have hout : onNext dataPart (step s') = .next (dataPart t) := by
    rw [← step_ignores s', heq, step_ignores s, h]
    rfl
  obtain ⟨t', ht', hdata⟩ := onNext_eq_next.1 hout
  exact ⟨t', ht', hdata.symm⟩

theorem dataPart_statuses (s : State) :
    (dataPart s).ports.responses.map (fun x => x.status) = s.ports.responses.map (fun x => x.status) := by
  simp [dataPart]

/-- Settles O60: the two states differ in blanked parts only, and so do the states after the step. -/
theorem dataDoesNotDependOnClockSettings : Obligations.DataDoesNotDependOnClockSettings := by
  intro s t div divSet pol pha fmt delay fctrl pinfn hstep
  refine (step_of_dataPart_eq ?_ hstep).imp fun t' ⟨ht', heq⟩ => ⟨ht', ?_⟩
  · rfl
  have hst := congrArg (fun u => u.ports.responses.map fun x => x.status) heq
  simp only [dataPart_statuses] at hst
  simp only [dataPart, State.mk.injEq, Regs.mk.injEq, Ports.mk.injEq, true_and] at heq
  obtain ⟨hxfer, hclient, ⟨hcsid, hcsdef, hcsmode, hmark, htx, hrx⟩, hlink, hfault, hcur, hinited, hmem,
    ⟨-, hdone, hwire⟩, -, -, -, -⟩ := heq
  exact ⟨hxfer, hlink, hmem, hcur, hfault, hclient, hinited, hcsid, hcsdef, hcsmode, hmark, htx, hrx, hwire,
    hdone, hst⟩

end Sys2Proof.Machine

/-! PROOF. BUF and its two users (`20_memory.md`): what SUBMIT reads of it, what the host reaches of it, and the echo a
loopback peer leaves in it. -/

namespace Sys2Proof.Machine

/-! ## What SUBMIT reads of BUF -/

/-- `s` with another memory. -/
def withMem (m : Memory) (s : State) : State := { s with mem := m }

@[simp] theorem withMem_mem (m : Memory) (s : State) : (withMem m s).mem = m := rfl

theorem whenInited_withMem {s : State} {k k' : Result} {m : Memory} (hk : k' = onNext (withMem m) k) :
    whenInited (withMem m s) k' = onNext (withMem m) (whenInited s k) := by
  rcases whenInited_cases s k with ⟨hi, h⟩ | ⟨hi, h⟩ <;> rw [h]
  · exact (if_pos hi).trans hk
  · exact if_neg (by simp [withMem, hi])

theorem whenIdle_withMem {s : State} {k k' : Result} {m : Memory} (hk : k' = onNext (withMem m) k) :
    whenIdle (withMem m s) k' = onNext (withMem m) (whenIdle s k) := by
  rcases whenIdle_cases s k with ⟨hb, h⟩ | ⟨hb, h⟩ <;> rw [h]
  · exact (if_neg (by simp [withMem, hb])).trans hk
  · exact if_pos hb

/-- The priming pushes do not read BUF: their bytes are given (R206). -/
theorem pushBytes_withMem (bs : List Byte) (m : Memory) (s : State) :
    ∃ t, (pushBytes bs s = .ok t ∧ pushBytes bs (withMem m s) = .ok (withMem m t)) ∨
      (pushBytes bs s = .error t ∧ pushBytes bs (withMem m s) = .error (withMem m t)) := by
  induction bs generalizing s with
  | nil => exact ⟨s, .inl ⟨rfl, rfl⟩⟩
  | cons b bs ih =>
    have hfull : txFull (withMem m s) = txFull s := rfl
    unfold pushBytes
    rw [hfull]
    split
    · exact ⟨s, .inr ⟨rfl, rfl⟩⟩
    · exact ih (pushTx b s)

theorem raiseHardFault_withMem (f : HardFault) (m : Memory) (s : State) :
    raiseHardFault f (withMem m s) = withMem m (raiseHardFault f s) := by
  cases hf : s.fault <;> simp [raiseHardFault, withMem, hf]

/-- The first burst is `min(7, io_len)` bytes (R173). -/
theorem firstBurst_ioLength (n : Word) (w : Handle) (r : Option Handle) :
    firstBurst (ioLength n w r) = min 7 (ioLenNat n w r) := by
  rw [firstBurst, ioLength_toNat, Config.burst]

/-- An accepting SUBMIT reads BUF once, for the bytes it primes TXF with (R173). -/
theorem acceptSubmit_withMem {n : Word} {w : Handle} {r : Option Handle} {s : State} {m : Memory}
    (hagree : ∀ j, j < min 7 (ioLenNat n w r) →
      memRead m (w.base.toNat + j) = memRead s.mem (w.base.toNat + j)) :
    acceptSubmit n w r (withMem m s) = onNext (withMem m) (acceptSubmit n w r s) := by
  have hbytes : memBytes m w.base.toNat (firstBurst (ioLength n w r)) =
      memBytes s.mem w.base.toNat (firstBurst (ioLength n w r)) :=
    memBytes_congr (by rwa [firstBurst_ioLength])
  unfold acceptSubmit
  simp only [withMem_mem, hbytes]
  split
  · exact congrArg Host.Outcome.next
      (raiseHardFault_withMem _ m { s with xfer.busy := true, xfer.ioLen := ioLength n w r })
  · obtain ⟨t, ⟨hs, hm⟩ | ⟨hs, hm⟩⟩ := pushBytes_withMem
      (memBytes s.mem w.base.toNat (firstBurst (ioLength n w r))) m
      { s with xfer.busy := true, xfer.ioLen := ioLength n w r } <;>
      dsimp only [withMem] at hm ⊢ <;> rw [hs, hm]
    · rfl
    · exact congrArg Host.Outcome.next (raiseHardFault_withMem _ m t)

/-- Settles O28: the tests of SUBMIT do not read BUF, and its acceptance reads the first burst only. -/
theorem submitReadsOnlyItsFirstBurst : Obligations.SubmitReadsOnlyItsFirstBurst := by
  intro n w r s m hagree
  refine whenInited_withMem (s := s) ?_
  split
  · split
    · rfl
    · exact whenIdle_withMem (acceptSubmit_withMem hagree)
  · rfl

/-! ## What the host reaches of BUF -/

/-- The bytes the block owns are those of the two cells (R75). -/
theorem ownedByBlock_iff (s : State) (a : Nat) :
    ownedByBlock s a = true ↔
      ∃ h, (s.xfer.txc = some h ∨ s.xfer.rxc = some h) ∧ h.base.toNat ≤ a ∧ a < h.base.toNat + h.len.toNat := by
  cases htx : s.xfer.txc <;> cases hrx : s.xfer.rxc <;> simp [ownedByBlock, handleHas, htx, hrx]

/-- A byte the block does not own is outside either buffer. -/
theorem outside_of_free {s : State} {a : Nat} {h : Handle} (hfree : ¬ ownedByBlock s a = true)
    (hcell : s.xfer.txc = some h ∨ s.xfer.rxc = some h) : a < h.base.toNat ∨ h.base.toNat + h.len.toNat ≤ a := by
  by_contra hin
  exact hfree ((ownedByBlock_iff s a).2 ⟨h, hcell, by omega, by omega⟩)

theorem step_hostRead {s : State} {a : Word} {rest : List Move} (hf : s.fault = none) (hc : s.cur = .none)
    (henv : s.env = .hostRead a :: rest) : step s = onNext countStep (hostLoad a { s with env := rest }) := by
  rw [step_of_no_fault hf]
  simp [takeMove, henv, whenReady, hc]

theorem step_hostWrite {s : State} {a : Word} {v : Byte} {rest : List Move} (hf : s.fault = none)
    (hc : s.cur = .none) (henv : s.env = .hostWrite a v :: rest) :
    step s = onNext countStep (hostStore a v { s with env := rest }) := by
  rw [step_of_no_fault hf]
  simp [takeMove, henv, whenReady, hc]

/-- A host access is refused for an owned byte (R75). -/
theorem hostLoad_of_owned {s : State} {a : Word} (h : ownedByBlock s a.toNat = true) :
    hostLoad a s = .refused (.ownedByte a.toNat) := if_pos h

theorem hostStore_of_owned {s : State} {a : Word} (v : Byte) (h : ownedByBlock s a.toNat = true) :
    hostStore a v s = .refused (.ownedByte a.toNat) := if_pos h

/-- And it succeeds for any other byte (R72). -/
theorem hostLoad_of_free {s : State} {a : Word} (h : ¬ ownedByBlock s a.toNat = true) :
    hostLoad a s = .next s := if_neg h

theorem hostStore_of_free {s : State} {a : Word} (v : Byte) (h : ¬ ownedByBlock s a.toNat = true) :
    hostStore a v s = .next { s with mem := memWrite s.mem a.toNat v } := if_neg h

/-- Settles O50: the test of a host access is ownership, and a store is one write of BUF. -/
theorem hostReachesOnlyBytesItOwns : Obligations.HostReachesOnlyBytesItOwns := by
  intro s a v rest hf hc hwf
  rw [← ownedByBlock_iff]
  refine ⟨fun howned => ⟨fun henv => ?_, fun henv => ?_⟩, fun hfree => ⟨fun henv => ?_, fun henv => ?_⟩⟩
  · rw [step_hostWrite hf hc henv, hostStore_of_owned (s := { s with env := rest }) v howned]
    rfl
  · rw [step_hostRead hf hc henv, hostLoad_of_owned (s := { s with env := rest }) howned]
    rfl
  · refine ⟨memWrite s.mem a.toNat v, ?_, memRead_memWrite_same hwf v, fun b => memRead_memWrite_other s.mem v,
      Memory.wf_memWrite hwf a.isLt v⟩
    rw [step_hostWrite hf hc henv, hostStore_of_free (s := { s with env := rest }) v hfree]
    rfl
  · rw [step_hostRead hf hc henv, hostLoad_of_free (s := { s with env := rest }) hfree]
    rfl

/-! ## The echo -/

/-- The bytes between the two data ports, the next to be drained first (R206). -/
def inFlight (s : State) : List Byte := s.link.rxf ++ s.link.sr.toList ++ s.link.txf

theorem inFlight_length (s : State) : (inFlight s).length = outstanding s := by
  cases h : s.link.sr <;> simp [inFlight, outstanding, h, Nat.add_assoc, Nat.add_comm 1]

/-- The bytes in flight are those of the handle `w` from `rx_offset` on (R206, R213). -/
def FlightEchoes (w : Handle) (s : State) : Prop :=
  inFlight s = memBytes s.mem (w.base.toNat + s.xfer.rxOffset.toNat) (inFlight s).length

/-- The first `rx_offset` bytes of the read buffer are those of the handle `w` (R73). -/
def StoredEchoes (w : Handle) (s : State) : Prop :=
  ∀ r, s.xfer.rxc = some r → ∀ i, i < s.xfer.rxOffset.toNat →
    memRead s.mem (r.base.toNat + i) = memRead s.mem (w.base.toNat + i)

theorem echoing_iff (s : State) :
    Echoing s ↔ (s.params.loopback = true → s.fault = none → ∀ w, s.xfer.txc = some w →
      FlightEchoes w s ∧ StoredEchoes w s) := by
  simp only [FlightEchoes, inFlight_length]
  rfl

/-- All of a state the echo speaks of, but for the fault. -/
def echoPart (s : State) : Params × Option Handle × Option Handle × Word × List Byte × Memory :=
  (s.params, s.xfer.txc, s.xfer.rxc, s.xfer.rxOffset, inFlight s, s.mem)

theorem Echoing.of_echoPart_eq {s t : State} (h : Echoing s) (hf : s.fault = none) (heq : echoPart t = echoPart s) :
    Echoing t := by
  simp only [echoPart, Prod.mk.injEq] at heq
  obtain ⟨hp, htx, hrx, hoff, hflight, hmem⟩ := heq
  rw [echoing_iff] at h ⊢
  simp only [FlightEchoes, StoredEchoes, hp, htx, hrx, hoff, hflight, hmem]
  exact fun hl _ => h hl hf

/-- A block without a transmit buffer has nothing to echo. -/
theorem Echoing.of_no_buffer {s : State} (h : s.xfer.txc = none) : Echoing s :=
  fun _ _ _ hw => nomatch h.symm.trans hw

theorem Echoing.of_hardFault (f : HardFault) (s : State) : Echoing (raiseHardFault f s) :=
  fun _ hf => by simp at hf

section
variable {s : State} (h : Inv s)
include h

theorem Inv.no_buffer_of_idle (hb : s.xfer.busy = false) : s.xfer.txc = none :=
  (h.idle hb).1

/-- A byte of the transfer in the write buffer is no byte of the read buffer (R77). -/
theorem Inv.addresses_disjoint {w r : Handle} (hw : s.xfer.txc = some w) (hr : s.xfer.rxc = some r) {i j : Nat}
    (hi : i < s.xfer.ioLen.toNat) (hj : j < s.xfer.ioLen.toNat) : w.base.toNat + i ≠ r.base.toNat + j := by
  have hdisj := (handlesOverlap_eq_false_iff w r).1 (h.disjoint w r hw hr)
  obtain ⟨-, hwlen⟩ := h.txHolds w hw
  obtain ⟨-, hrlen⟩ := h.rxHolds r hr
  simp only [word_eq_zero_iff] at hdisj
  omega

end

/-- With no byte pushed beyond `tx_offset`, the bytes in flight end there (R214). -/
theorem Balanced.flight_ends {s : State} (hb : Balanced s) (hf : s.fault = none) (hc : s.cur = .none ∨ s.cur = .sRxl) :
    s.xfer.rxOffset.toNat + (inFlight s).length = s.xfer.txOffset.toNat := by
  have := hb hf
  rcases hc with hc | hc <;> simpa [inFlight_length, loopPushed, waitPushed, hc] using this

/-- In the refill loop they end at its counter (R186, R214). -/
theorem Balanced.flight_ends_in_refill {s : State} {i before stop : Word} (hb : Balanced s) (h : Inv s)
    (hf : s.fault = none) (hc : s.cur = .sTxl i before stop) :
    s.xfer.rxOffset.toNat + (inFlight s).length = i.toNat := by
  have hbal := hb hf
  have hagree := h.cur
  simp only [curAgrees, hc] at hagree
  obtain ⟨hbefore, hle, -⟩ := hagree
  simp only [loopPushed, waitPushed, hc, hbefore] at hbal
  rw [inFlight_length]
  omega

/-! ### The Shifter -/

/-- `S1` moves the head of TXF to the frame in flight (R209). -/
theorem shiftOut_echoPart (s : State) : echoPart (shiftOut s) = echoPart s := by
  rcases shiftOut_link s with ⟨b, rest, hsr, htxf, htxf', hsr', -⟩ | heq
  · simp [echoPart, inFlight, hsr, htxf, htxf', hsr']
  · rw [heq]

/-- `S2` moves the frame in flight to RXF, since the peer answers the byte it was sent (R210, R213). -/
theorem shiftIn_keeps_echo {s : State} (he : Echoing s) (hf : s.fault = none) (p : Byte) : Echoing (shiftIn p s) := by
  rcases shiftIn_cases p s with ⟨-, heq⟩ | ⟨-, -, heq⟩ | ⟨b, hsr, -, hrxf, hsr', -⟩
  · rwa [heq]
  · exact heq ▸ .of_hardFault _ s
  · intro hl
    refine he.of_echoPart_eq hf ?_ hl
    have hl : s.params.loopback = true := by simpa using hl
    simp [echoPart, inFlight, hsr, hrxf, hsr', peerAnswer, hl]

/-! ### The host -/

/-- A store outside the block's buffers changes no byte the echo speaks of (R75). -/
theorem hostStore_keeps_echo {s t : State} {a : Word} {v : Byte} (h : Inv s) (hb : Balanced s) (he : Echoing s)
    (hf : s.fault = none) (hc : s.cur = .none) (hm : hostStore a v s = .next t) : Echoing t := by
  have hfree : ¬ ownedByBlock s a.toNat = true := fun howned => by simp [hostStore_of_owned v howned] at hm
  obtain rfl := hostStore_eq_next hm
  rw [echoing_iff] at he ⊢
  intro hl _ w hw
  obtain ⟨hflight, hstored⟩ := he hl hf w hw
  have hends := hb.flight_ends hf (.inl hc)
  have hrx := h.rxLeTx
  have htx := h.txLeIo
  obtain ⟨-, hwlen⟩ := h.txHolds w hw
  have hwfree := outside_of_free hfree (.inl hw)
  refine ⟨hflight.trans (memBytes_memWrite_outside (by omega)).symm, fun r hr i hi => ?_⟩
  obtain ⟨-, hrlen⟩ := h.rxHolds r hr
  have hrfree := outside_of_free hfree (.inr hr)
  have hi : i < s.xfer.rxOffset.toNat := hi
  dsimp only
  rw [memRead_memWrite_other s.mem v (by omega), memRead_memWrite_other s.mem v (by omega)]
  exact hstored r hr i hi

/-! ### The drain -/

/-- A pop of the drain: the head of RXF is gone and counted (R182). -/
def drained (rest : List Byte) (s : State) : State :=
  { s with link.rxf := rest, xfer.rxOffset := s.xfer.rxOffset + 1, cur := .sRxl }

/-- Everything the drain's micro-step can do, with the address a byte is stored at (R182 to R184). -/
theorem microDrain_cases {s t : State} (hm : microDrain s = .next t) :
    t = drainEnd s ∨ t = raiseHardFault .rxFifoEmpty s ∨
      ∃ v rest, s.xfer.rxOffset ≠ s.xfer.txOffset ∧ s.link.rxf = v :: rest ∧
        ((s.xfer.rxc = none ∧ t = drained rest s) ∨
          ∃ r, s.xfer.rxc = some r ∧ t =
            { drained rest s with mem := memWrite s.mem (r.base.toNat + s.xfer.rxOffset.toNat) v }) := by
  unfold microDrain at hm
  split at hm
  · cases hm
    exact .inl rfl
  · next hne =>
    split at hm
    · cases hm
      exact .inr (.inl rfl)
    · next v rest hrxf =>
      refine .inr (.inr ⟨v, rest, hne, hrxf, ?_⟩)
      split at hm
      · next hrxc =>
        cases hm
        exact .inl ⟨hrxc, rfl⟩
      · next r hrxc =>
        obtain ⟨-, hm⟩ := atAddress_eq_next.1 hm
        cases hm
        exact .inr ⟨r, hrxc, rfl⟩

section
variable {s : State} {v : Byte} {rest : List Byte}

theorem inFlight_eq_cons (hrxf : s.link.rxf = v :: rest) : inFlight s = v :: inFlight (drained rest s) := by
  simp [inFlight, drained, hrxf]

/-- Below `tx_offset` the counter of the drain does not wrap (R183). -/
theorem drained_rxOffset_toNat (h : Inv s) (hne : s.xfer.rxOffset ≠ s.xfer.txOffset) :
    (drained rest s).xfer.rxOffset.toNat = s.xfer.rxOffset.toNat + 1 := by
  have := h.rxLeTx
  show (s.xfer.rxOffset + 1).toNat = _
  bv_omega

/-- The byte popped is the write buffer's at `rx_offset`, and the rest of the flight is what follows it. -/
theorem FlightEchoes.pop {w : Handle} (hflight : FlightEchoes w s) (h : Inv s)
    (hne : s.xfer.rxOffset ≠ s.xfer.txOffset) (hrxf : s.link.rxf = v :: rest) :
    v = memRead s.mem (w.base.toNat + s.xfer.rxOffset.toNat) ∧ FlightEchoes w (drained rest s) := by
  rw [FlightEchoes, inFlight_eq_cons hrxf, List.length_cons, memBytes, List.cons.injEq] at hflight
  rwa [FlightEchoes, drained_rxOffset_toNat h hne]

/-- A byte stored in the read buffer leaves the flight's echo: the buffers are disjoint (R77). -/
theorem FlightEchoes.store {w r : Handle} (hflight : FlightEchoes w (drained rest s)) (h : Inv s) (hb : Balanced s)
    (hf : s.fault = none) (hc : s.cur = .sRxl) (hne : s.xfer.rxOffset ≠ s.xfer.txOffset)
    (hrxf : s.link.rxf = v :: rest) (hw : s.xfer.txc = some w) (hr : s.xfer.rxc = some r) :
    FlightEchoes w { drained rest s with
      mem := memWrite s.mem (r.base.toNat + s.xfer.rxOffset.toNat) v } := by
  have hends := hb.flight_ends hf (.inr hc)
  have htx := h.txLeIo
  have hoff := drained_rxOffset_toNat (rest := rest) h hne
  rw [inFlight_eq_cons hrxf, List.length_cons] at hends
  refine hflight.trans (memBytes_congr fun i hi => ?_)
  rw [hoff, Nat.add_assoc]
  exact (memRead_memWrite_other _ _ (h.addresses_disjoint hw hr (by omega) (by omega))).symm

/-- The byte stored at `rx_offset` extends the copy by one. -/
theorem StoredEchoes.store {w r : Handle} (hstored : StoredEchoes w s) (h : Inv s)
    (hne : s.xfer.rxOffset ≠ s.xfer.txOffset) (hw : s.xfer.txc = some w) (hr : s.xfer.rxc = some r)
    (hv : v = memRead s.mem (w.base.toNat + s.xfer.rxOffset.toNat)) :
    StoredEchoes w { drained rest s with
      mem := memWrite s.mem (r.base.toNat + s.xfer.rxOffset.toNat) v } := by
  intro r' hr' i hi
  obtain rfl : r = r' := Option.some.inj (hr.symm.trans hr')
  have hlt : s.xfer.rxOffset.toNat < s.xfer.ioLen.toNat := by
    have := h.rxLeTx
    have := h.txLeIo
    have := mt BitVec.eq_of_toNat_eq hne
    omega
  have hi : i < s.xfer.rxOffset.toNat + 1 := drained_rxOffset_toNat (rest := rest) h hne ▸ hi
  have hread := memRead_memWrite_other s.mem v (h.addresses_disjoint hw hr (i := i) (by omega) hlt)
  dsimp only
  rw [hread]
  rcases Nat.lt_succ_iff_lt_or_eq.1 hi with hi | rfl
  · rw [memRead_memWrite_other s.mem v (by omega)]
    exact hstored r hr i hi
  · rw [memRead_memWrite_same h.mem, hv]

end

theorem drainEnd_echoPart (s : State) : echoPart (drainEnd s) = echoPart s := by
  simp [echoPart, inFlight]

/-- The drain moves the head of the flight to its place in the read buffer, or drops it where there is none (R182). -/
theorem microDrain_keeps_echo {s t : State} (h : Inv s) (hb : Balanced s) (he : Echoing s) (hf : s.fault = none)
    (hc : s.cur = .sRxl) (hm : microDrain s = .next t) : Echoing t := by
  rcases microDrain_cases hm with rfl | rfl | ⟨v, rest, hne, hrxf, hpop⟩
  · exact he.of_echoPart_eq hf (drainEnd_echoPart s)
  · exact .of_hardFault _ s
  · rw [echoing_iff] at he ⊢
    intro hl _ w hw
    rcases hpop with ⟨hr, rfl⟩ | ⟨r, hr, rfl⟩ <;>
      obtain ⟨hflight, hstored⟩ := he hl hf w hw <;>
      obtain ⟨hv, hrest⟩ := hflight.pop h hne hrxf
    · exact ⟨hrest, fun r hr' => nomatch hr.symm.trans hr'⟩
    · exact ⟨hrest.store h hb hf hc hne hrxf hw hr, hstored.store h hne hw hr hv⟩

/-! ### The refill -/

/-- A push of the refill loop: the byte of the write buffer at the loop's counter (R186). -/
theorem microRefill_push {s t : State} {i before stop : Word} {w : Handle}
    (hm : microRefill i before stop s = .next t) (hlt : i.toNat < stop.toNat) (hroom : txFull s = false)
    (hw : s.xfer.txc = some w) :
    t = { pushTx (memRead s.mem (w.base.toNat + i.toNat)) s with cur := .sTxl (i + 1) before stop } := by
  simp only [microRefill, hlt, hroom, hw, if_true, Bool.false_eq_true, if_false] at hm
  obtain ⟨-, hm⟩ := atAddress_eq_next.1 hm
  exact (Host.Outcome.next.inj hm).symm

theorem inFlight_pushTx (v : Byte) (s : State) : inFlight (pushTx v s) = inFlight s ++ [v] := by
  simp [inFlight]

/-- The write buffer's byte after the flight, pushed, lengthens the flight's echo. -/
theorem FlightEchoes.push {s : State} {w : Handle} (hflight : FlightEchoes w s) {k : Nat}
    (hk : s.xfer.rxOffset.toNat + (inFlight s).length = k) :
    FlightEchoes w (pushTx (memRead s.mem (w.base.toNat + k)) s) := by
  rw [FlightEchoes, inFlight_pushTx, List.length_append, List.length_singleton, memBytes_append]
  simp only [pushTx_mem, pushTx_xfer, memBytes, Nat.add_assoc, hk]
  rw [← hflight]

/-- The refill loop pushes the byte that follows the flight (R186, R214). -/
theorem microRefill_keeps_echo {s t : State} {i before stop : Word} (h : Inv s) (hb : Balanced s) (he : Echoing s)
    (hf : s.fault = none) (hc : s.cur = .sTxl i before stop) (hlt : i.toNat < stop.toNat)
    (hroom : txFull s = false) (hm : microRefill i before stop s = .next t) : Echoing t := by
  obtain ⟨w, hw⟩ := Option.isSome_iff_exists.1 (h.owner hf (h.busy_of_refill hc))
  obtain rfl := microRefill_push hm hlt hroom hw
  rw [echoing_iff] at he ⊢
  rintro hl - w' hw'
  obtain rfl : w = w' := Option.some.inj (hw.symm.trans hw')
  obtain ⟨hflight, hstored⟩ := he hl hf w hw
  exact ⟨hflight.push (hb.flight_ends_in_refill h hf hc), hstored⟩

/-! ### The micro-steps -/

/-- Only the pops of the drain and the pushes of the refill move a byte of the transfer. -/
theorem microStep_keeps_echo {s t : State} (h : Inv s) (hb : Balanced s) (he : Echoing s) (hf : s.fault = none)
    (hm : microStep s = .next t) : Echoing t := by
  have hdrain (hc : s.cur = .sRxl) : Echoing t :=
    microDrain_keeps_echo h hb he hf hc (by rwa [microStep, hc] at hm)
  cases microStep_effect hm with
  | nothing => exact he
  | drainEnded hc | drainFault hc | byteDropped hc | byteStored hc => exact hdrain hc
  | bytePushed v hc hlt hroom =>
    exact microRefill_keeps_echo h hb he hf hc hlt hroom (by rwa [microStep, hc] at hm)
  | rxTested | txFlagClear | refillStarted | refillEnded | passEnded => exact he.of_echoPart_eq hf rfl
  | refillFault f | completionNoBuffer | completionNoClient => exact .of_hardFault _ _
  | completed => exact .of_no_buffer rfl
  | waitEnded d hc =>
    have hidle := h.cur
    simp only [curAgrees, hc] at hidle
    exact .of_no_buffer (h.no_buffer_of_idle hidle)

/-! ### The operations -/

/-- With no operation in progress an idle block has no byte in flight (R214). -/
theorem inFlight_eq_nil {s : State} (h : Inv s) (hb : Balanced s) (hf : s.fault = none) (hc : s.cur = .none)
    (hidle : s.xfer.busy = false) : inFlight s = [] := by
  have := hb.flight_ends hf (.inl hc)
  have := h.idle_counters hidle
  exact List.length_eq_zero_iff.1 (by omega)

/-- With TXF empty an accepting SUBMIT primes it with the whole first burst (R173). -/
theorem acceptSubmit_of_empty_txf {s : State} {n : Word} {w : Handle} {r : Option Handle} (htxf : s.link.txf = [])
    (hne : firstBurst (ioLength n w r) ≠ 0) :
    acceptSubmit n w r s = .next (respond .ok 0 (armTransfer w r (firstBurst (ioLength n w r))
      (primed (ioLength n w r) (memBytes s.mem w.base.toNat (firstBurst (ioLength n w r))) s))) := by
  have hfits : firstBurst (ioLength n w r) ≤ Config.fifoCapacity :=
    (Nat.min_le_left ..).trans (by decide)
  unfold acceptSubmit
  dsimp only
  rw [if_neg hne, pushBytes_fits (by simpa [htxf] using hfits)]
  simp [primed, htxf]

/-- An accepted SUBMIT starts the flight at the first byte of the write buffer, with nothing stored yet. -/
theorem acceptSubmit_keeps_echo {s t : State} {n : Word} {w : Handle} {r : Option Handle} (h : Inv s)
    (hb : Balanced s) (hf : s.fault = none) (hc : s.cur = .none) (hidle : s.xfer.busy = false)
    (hm : acceptSubmit n w r s = .next t) : Echoing t := by
  by_cases hcnt : firstBurst (ioLength n w r) = 0
  · simp only [acceptSubmit, hcnt, if_true] at hm
    cases hm
    exact .of_hardFault _ _
  · have hnil := inFlight_eq_nil h hb hf hc hidle
    simp only [inFlight, List.append_eq_nil_iff] at hnil
    obtain ⟨⟨hrxf, hsr⟩, htxf⟩ := hnil
    rw [acceptSubmit_of_empty_txf htxf hcnt] at hm
    cases hm
    rw [echoing_iff]
    rintro - - w' ⟨⟩
    refine ⟨?_, fun _ _ i hi => absurd hi (Nat.not_lt_zero i)⟩
    simp [FlightEchoes, inFlight, armTransfer, primed, hrxf, hsr]

theorem execSubmit_keeps_echo {s t : State} {n : Word} {w : Handle} {r : Option Handle} (h : Inv s)
    (hb : Balanced s) (he : Echoing s) (hf : s.fault = none) (hc : s.cur = .none)
    (hm : execSubmit n w r s = .next t) : Echoing t := by
  have hanswer (st : Status) (u : State) (hu : Host.Outcome.next (respond st 0 s) = (.next u : Result)) :
      Echoing u := Host.Outcome.next.inj hu ▸ he
  rcases whenInited_cases s _ with ⟨-, hw⟩ | ⟨-, hw⟩ <;> rw [execSubmit, hw] at hm
  · split at hm
    · split at hm
      · exact hanswer _ _ hm
      · rcases whenIdle_cases s (acceptSubmit n w r s) with ⟨hidle, hw⟩ | ⟨-, hw⟩ <;> rw [hw] at hm
        · exact acceptSubmit_keeps_echo h hb hf hc hidle hm
        · exact hanswer _ _ hm
    · exact hanswer _ _ hm
  · exact hanswer _ _ hm

/-- Every operation but an INIT during a transfer keeps the echo: SUBMIT starts it, a byte operation finds no buffer, and the
others touch nothing it speaks of. -/
theorem exec_keeps_echo {s t : State} {i : Instr} (h : Inv s) (hb : Balanced s) (he : Echoing s)
    (hf : s.fault = none) (hc : s.cur = .none) (hinit : i = .init → s.xfer.busy = false)
    (hm : exec i s = .next t) : Echoing t := by
  cases exec_effect hm with
  | submitted => exact execSubmit_keeps_echo h hb he hf hc hm
  | init => exact .of_no_buffer (by simpa using h.no_buffer_of_idle (hinit rfl))
  | bytePushed k v _ hidle => exact .of_no_buffer (h.no_buffer_of_idle hidle)
  | byteOverflow | submitFault => exact .of_hardFault _ _
  | _ => exact he.of_echoPart_eq hf (by simp [echoPart, inFlight])

theorem issueCmd_keeps_echo {s t : State} {c : CmdWord} (h : Inv s) (hb : Balanced s) (he : Echoing s)
    (hf : s.fault = none) (hc : s.cur = .none) (hinit : decode c = .ok .init → s.xfer.busy = false)
    (hm : issueCmd c s = .next t) : Echoing t := by
  cases hd : decode c with
  | ok i =>
    rw [issueCmd_of_ok s hd] at hm
    exact exec_keeps_echo h hb he hf hc (fun hi => hinit (hi ▸ hd)) hm
  | illegal why =>
    rw [issueCmd_of_illegal s hd] at hm
    cases hm
    exact he

/-! ### The step -/

theorem takeMove_keeps_echo {s t : State} (h : Inv s) (hb : Balanced s) (he : Echoing s) (hf : s.fault = none)
    (hinit : ¬ initWhileBusy s) (hm : takeMove s = .next t) : Echoing t := by
  rcases takeMove_cases s with heq | ⟨rest, -, heq⟩ | ⟨c, rest, henv, hc, heq⟩ | ⟨rest, -, heq⟩ |
    ⟨p, rest, -, heq⟩ | ⟨rest, -, heq⟩ | ⟨a, rest, -, -, heq⟩ | ⟨a, v, rest, -, hc, heq⟩ <;> rw [heq] at hm
  · exact microStep_keeps_echo h hb he hf hm
  · exact microStep_keeps_echo (h.withEnv rest) hb he hf hm
  · refine issueCmd_keeps_echo (h.withEnv rest) hb he hf hc (fun hd => ?_) hm
    by_contra hbusy
    exact hinit ⟨by simpa using hbusy, hf, hc, c, rest, henv, hd⟩
  · cases hm
    exact Echoing.of_echoPart_eq he hf (shiftOut_echoPart { s with env := rest })
  · cases hm
    exact shiftIn_keeps_echo (s := { s with env := rest }) he hf p
  · cases hm
    exact .of_no_buffer rfl
  · obtain rfl := hostLoad_eq_next hm
    exact he
  · exact hostStore_keeps_echo (h.withEnv rest) hb he hf hc hm

/-- Settles O56: each agent's move keeps the bytes in flight and the bytes stored those of the write buffer. -/
theorem everyStepKeepsTheEcho : Obligations.EveryStepKeepsTheEcho := by
  intro s t h hb he hinit hstep
  by_cases hr : resetNext s
  · obtain ⟨rest, henv⟩ := hr
    rw [step_of_reset henv] at hstep
    cases hstep
    exact .of_no_buffer rfl
  · have hf := no_fault_of_step hstep hr
    obtain ⟨u, hu, rfl⟩ := onNext_eq_next.1 (step_of_no_fault hf ▸ hstep)
    exact takeMove_keeps_echo (t := u) h hb he hf hinit hu

/-! ### The completed transfer -/

/-- Of the micro-steps only the drain writes BUF. -/
theorem MicroEffect.mem_eq {s t : State} (h : MicroEffect s t) : s.cur = .sRxl ∨ t.mem = s.mem := by
  cases h with
  | byteStored hc => exact .inl hc
  | _ => exact .inr (by simp [takeCells])

/-- A step that completes the transfer emits a record. -/
theorem Completes.completions_ne {s t : State} (hd : Completes s t) : t.ports.completions ≠ s.ports.completions := by
  obtain ⟨-, -, w, id, -, -, hrec⟩ := hd
  simp [hrec]

/-- The completing micro-step found the whole transfer exchanged, and leaves BUF (R187, R188). -/
theorem microStep_completes {s t : State} (hm : microStep s = .next t) (hd : Completes s t) :
    s.xfer.rxOffset = s.xfer.ioLen ∧ t.mem = s.mem := by
  have ⟨hc, _⟩ := hd
  refine ⟨?_, (microStep_effect hm).mem_eq.resolve_left (by simp [hc])⟩
  rw [microStep, hc] at hm
  by_contra hne
  have hopen : transferComplete s = false := by simp [transferComplete, hne]
  simp only [microFinish, hopen, Bool.false_eq_true, if_false] at hm
  cases hm
  exact hd.completions_ne rfl

/-- No other move completes a transfer. -/
theorem takeMove_completes {s t : State} (hm : takeMove s = .next t) (hd : Completes s t) :
    s.xfer.rxOffset = s.xfer.ioLen ∧ t.mem = s.mem := by
  have hkept := hd.completions_ne
  have ⟨hcur, _⟩ := hd
  rcases takeMove_cases s with heq | ⟨rest, -, heq⟩ | ⟨c, rest, -, hc, -⟩ | ⟨rest, -, heq⟩ |
    ⟨p, rest, -, heq⟩ | ⟨rest, -, heq⟩ | ⟨a, rest, -, hc, -⟩ | ⟨a, v, rest, -, hc, -⟩
  · exact microStep_completes (heq ▸ hm) hd
  · exact microStep_completes (s := { s with env := rest }) (heq ▸ hm) hd
  · exact nomatch hcur.symm.trans hc
  · cases heq.symm.trans hm
    exact absurd (by simp) hkept
  · cases heq.symm.trans hm
    exact absurd (by simp) hkept
  · cases heq.symm.trans hm
    exact absurd rfl hkept
  · exact nomatch hcur.symm.trans hc
  · exact nomatch hcur.symm.trans hc

/-- Settles O57: at the completion `rx_offset` is `io_len`, so the echo's stored bytes are the whole transfer. -/
theorem completedLoopbackTransferEchoesTheBuffer : Obligations.CompletedLoopbackTransferEchoesTheBuffer := by
  intro s t d h _ he hl hstep hrec r hr j hj
  by_cases hreset : resetNext s
  · obtain ⟨rest, henv⟩ := hreset
    rw [step_of_reset henv] at hstep
    cases hstep
    simp [countStep, resetBlock] at hrec
  · have hf := no_fault_of_step hstep hreset
    obtain ⟨u, hu, rfl⟩ := onNext_eq_next.1 (step_of_no_fault hf ▸ hstep)
    rcases (takeMove_effect hf hreset hu).completes_or_keeps_busy with hd | ⟨hkept, -⟩
    · obtain ⟨hwhole, hmem⟩ := takeMove_completes hu hd
      obtain ⟨-, -, w, id, hw, -, hrec'⟩ := hd
      obtain rfl : d = _ := List.singleton_inj.1 (List.append_cancel_left (hrec.symm.trans hrec'))
      obtain ⟨-, hstored⟩ := (echoing_iff s).1 he hl hf w hw
      show memRead u.mem _ = memRead u.mem _
      rw [hmem]
      exact hstored r hr j (hwhole ▸ hj)
    · simp [countStep, hkept] at hrec

end Sys2Proof.Machine

/-! PROOF. The encoding (`30_encoding.md`): the header fields, the opcode map, what the decoder answers for a word that
passes the header tests, and which words are illegal. -/

namespace Sys2Proof

/-! ## The header word and the opcode map -/

/-- A header word is its three fields (R102). -/
theorem word_eq_iff_header_fields (x y : Word) :
    x = y ↔ headerReserved x = headerReserved y ∧ headerOp x = headerOp y ∧ headerRxp x = headerRxp y := by
  refine ⟨by rintro rfl; simp, fun ⟨hres, hop, hrxp⟩ => BitVec.eq_of_getLsbD_eq fun k hk => ?_⟩
  rcases Nat.lt_trichotomy k 8 with hlow | rfl | hhigh
  · simpa [headerOp, hlow] using congrArg (BitVec.getLsbD · k) hop
  · exact hrxp
  · have hbits := congrArg (BitVec.getLsbD · (k - 9)) hres
    simpa [headerReserved, show k - 9 < 23 by omega, show 9 + (k - 9) = k by omega] using hbits

/-- The mask of a row takes every bit, but bit 8 of SUBMIT's (R104). -/
theorem header_fields_opMask (o : Op) :
    headerReserved (opMask o) = BitVec.allOnes 23 ∧ headerOp (opMask o) = BitVec.allOnes 8 ∧
      headerRxp (opMask o) = !decide (o = .submit) := by
  cases o <;> decide

/-- The match of a row is the header its operation is encoded with, `rxp` clear (R104). -/
theorem opMatch_eq_headerWord (o : Op) : opMatch o = headerWord o false := by
  cases o <;> rfl

/-- The header words a row of the opcode table matches (R104). -/
theorem row_matches_iff (o : Op) (w0 : Word) :
    w0 &&& opMask o = opMatch o ↔
      headerReserved w0 = 0 ∧ headerOp w0 = opCode o ∧ (headerRxp w0 = true → o = .submit) := by
  obtain ⟨hres, hop, hrxp⟩ := header_fields_opMask o
  have hres' : headerReserved (w0 &&& opMask o) = headerReserved w0 &&& headerReserved (opMask o) :=
    BitVec.extractLsb'_and
  have hop' : headerOp (w0 &&& opMask o) = headerOp w0 &&& headerOp (opMask o) := BitVec.extractLsb'_and
  have hrxp' : headerRxp (w0 &&& opMask o) = (headerRxp w0 && headerRxp (opMask o)) := BitVec.getLsbD_and
  rw [word_eq_iff_header_fields, opMatch_eq_headerWord, headerReserved_headerWord, headerOp_headerWord,
    headerRxp_headerWord, hres', hop', hrxp', hres, hop, hrxp,
    BitVec.and_allOnes, BitVec.and_allOnes]
  simp

/-- The opcode map is the opcode column read the other way: no two operations share an opcode (R104). -/
theorem opOfCode_eq_some_iff {b : BitVec 8} {o : Op} : opOfCode b = some o ↔ b = opCode o := by
  refine ⟨fun h => BitVec.eq_of_toNat_eq ?_, fun h => h ▸ opOfCode_opCode o⟩
  unfold opOfCode at h
  split at h <;> cases h <;> assumption

theorem opCode_inj {o o' : Op} : opCode o = opCode o' ↔ o = o' := by
  rw [← opOfCode_eq_some_iff, opOfCode_opCode, Option.some_inj]

/-- The 18 values of the opcode map (R104, R108 (2)). -/
def opCodes : List (BitVec 8) :=
  [0x00, 0x01, 0x02, 0x03, 0x04, 0x05, 0x06, 0x07, 0x08, 0x09, 0x0A, 0x0B, 0x0C, 0x0D, 0x0E, 0x10, 0x20, 0x30]

theorem opCode_mem_opCodes (o : Op) : opCode o ∈ opCodes := by
  cases o <;> decide

theorem opOfCode_eq_none_iff (b : BitVec 8) : opOfCode b = none ↔ b ∉ opCodes := by
  have hmapped : ∀ c ∈ opCodes, opOfCode c ≠ none := by decide
  refine ⟨fun h hb => hmapped b hb h, fun h => Option.eq_none_iff_forall_ne_some.2 fun o ho => h ?_⟩
  exact opOfCode_eq_some_iff.1 ho ▸ opCode_mem_opCodes o

/-! ## What the decoder answers -/

/-- A command that passes the tests (1) to (3) of R108 is decoded by its operands. -/
theorem decodeCmd_of_header {c : Cmd} {o : Op} (hres : headerReserved c.w0 = 0)
    (hop : opOfCode (headerOp c.w0) = some o) (hrxp : headerRxp c.w0 = true → o = .submit) :
    decodeCmd c = decodeOperands o c := by
  simp only [decodeCmd, hres, hop, ne_eq, not_true_eq_false, if_false]
  exact if_neg fun ⟨hx, ho⟩ => ho (hrxp hx)

/-- So is a command with the header its operation is encoded with (R102). -/
theorem decodeCmd_headerWord {o : Op} {rxp : Bool} (hrxp : rxp = true → o = .submit) (a0 a1 a2 a3 a4 : Word) :
    decodeCmd ⟨headerWord o rxp, a0, a1, a2, a3, a4⟩ =
      decodeOperands o ⟨headerWord o rxp, a0, a1, a2, a3, a4⟩ :=
  decodeCmd_of_header (headerReserved_headerWord o rxp) (by rw [headerOp_headerWord, opOfCode_opCode])
    (by rwa [headerRxp_headerWord])

theorem decodeCmd_plainCmd (o : Op) (a0 : Word) : decodeCmd (plainCmd o a0) = decodeOperands o (plainCmd o a0) :=
  decodeCmd_headerWord (by simp) ..

/-- Commands with one header are decoded alike if the operation it names reads the same operands from both. -/
theorem decodeCmd_congr {c c' : Cmd} (hw : c'.w0 = c.w0)
    (h : ∀ o, headerOp c.w0 = opCode o → decodeOperands o c' = decodeOperands o c) : decodeCmd c' = decodeCmd c := by
  cases ho : opOfCode (headerOp c.w0) with
  | none => simp only [decodeCmd, hw, ho]
  | some o => simp only [decodeCmd, hw, ho, h o (opOfCode_eq_some_iff.1 ho)]

/-- SUBMIT reads its two handles, the read handle iff `rxp` is 1 (R103, R104). -/
theorem decode_encode_submit (n : Word) (w : Handle) (r : Option Handle) :
    decode (encode (.submit n w r)) = .ok (.submit n w r) := by
  cases r <;> rw [encode, decode_packCmd, encodeCmd, decodeCmd_headerWord (by simp)] <;>
    simp [decodeOperands, headerRxp_headerWord]

/-- Settles O2: the header word names the operation, and each operand is read from the bits it was written to. -/
theorem decodeOfEncodeIsTheCommand : Obligations.DecodeOfEncodeIsTheCommand := by
  intro i
  cases i with
  | submit n w r => exact decode_encode_submit n w r
  | setpol | setpha | wrbyte | rwbyte =>
    rw [encode, decode_packCmd, encodeCmd, decodeCmd_plainCmd]
    exact narrowOperand_setWidth _ (by decide) _
  | _ => rw [encode, decode_packCmd, encodeCmd, decodeCmd_plainCmd]; rfl

/-! ## Illegal words -/

theorem narrowOperand_illegal_iff {n : Nat} {a : Word} {k : BitVec n → Instr} :
    (∃ why, narrowOperand n a k = .illegal why) ↔ 2 ^ n ≤ a.toNat := by
  unfold narrowOperand
  split <;> simp <;> omega

/-- The test (4) of R108: the four operations with an operand narrower than its word. -/
theorem decodeOperands_illegal_iff (o : Op) (c : Cmd) :
    (∃ why, decodeOperands o c = .illegal why) ↔
      ((o = .setpol ∨ o = .setpha) ∧ 2 ^ 1 ≤ c.a0.toNat) ∨ ((o = .wrbyte ∨ o = .rwbyte) ∧ 2 ^ 8 ≤ c.a0.toNat) := by
  cases o with
  | setpol | setpha | wrbyte | rwbyte => rw [decodeOperands, narrowOperand_illegal_iff]; simp
  | _ => simp [decodeOperands]

/-- The tests (1) to (4) of R108 over the six words. -/
theorem decodeCmd_illegal_iff (c : Cmd) :
    (∃ why, decodeCmd c = .illegal why) ↔
      headerReserved c.w0 ≠ 0 ∨ headerOp c.w0 ∉ opCodes ∨
        (headerRxp c.w0 = true ∧ headerOp c.w0 ≠ opCode .submit) ∨
        ((headerOp c.w0 = opCode .setpol ∨ headerOp c.w0 = opCode .setpha) ∧ 2 ^ 1 ≤ c.a0.toNat) ∨
        ((headerOp c.w0 = opCode .wrbyte ∨ headerOp c.w0 = opCode .rwbyte) ∧ 2 ^ 8 ≤ c.a0.toNat) := by
  by_cases hres : headerReserved c.w0 = 0
  case neg =>
    have hword : decodeCmd c = .illegal .reservedHeader := if_pos hres
    exact iff_of_true ⟨_, hword⟩ (.inl hres)
  cases hop : opOfCode (headerOp c.w0) with
  | none =>
    have hword : decodeCmd c = .illegal .unknownOpcode := by simp [decodeCmd, hres, hop]
    exact iff_of_true ⟨_, hword⟩ (.inr (.inl ((opOfCode_eq_none_iff _).1 hop)))
  | some o =>
    have hcode := opOfCode_eq_some_iff.1 hop
    by_cases hrxp : headerRxp c.w0 = true → o = .submit
    · have hpass : ¬ (headerRxp c.w0 = true ∧ o ≠ .submit) := fun ⟨hx, ho⟩ => ho (hrxp hx)
      rw [decodeCmd_of_header hres hop hrxp, decodeOperands_illegal_iff]
      simp only [hres, hcode, opCode_inj, opCode_mem_opCodes, hpass, ne_eq, not_true_eq_false, false_or]
    · have hfail : headerRxp c.w0 = true ∧ o ≠ .submit := by simpa using hrxp
      have hword : decodeCmd c = .illegal .rxpWithoutSubmit := by simp [decodeCmd, hres, hop, hfail]
      exact iff_of_true ⟨_, hword⟩ (.inr (.inr (.inl (by rwa [hcode, ne_eq, opCode_inj]))))

/-- A field of a word of the command is a field of the command word. -/
theorem extractLsb'_extractLsb' {w start len i n : Nat} (c : BitVec w) (h : i + n ≤ len) :
    (c.extractLsb' start len).extractLsb' i n = c.extractLsb' (start + i) n := by
  ext k hk
  simp [show i + k < len by omega, Nat.add_assoc]

/-- Some bit of a word above its low `n` is 1 iff the word does not fit `n` bits. -/
theorem extractLsb'_high_ne_zero_iff {n m : Nat} (a : Word) (h : n + m = 32) :
    a.extractLsb' n m ≠ 0 ↔ 2 ^ n ≤ a.toNat := by
  have hlt : a.toNat / 2 ^ n < 2 ^ m := Nat.div_lt_of_lt_mul (by rw [← pow_add, h]; exact a.isLt)
  rw [ne_eq, ← BitVec.toNat_inj, BitVec.extractLsb'_toNat, Nat.shiftRight_eq_div_pow, Nat.mod_eq_of_lt hlt]
  simp [Nat.div_eq_zero_iff]

/-- The must-be-zero bits of an `n`-bit operand, as bits of the command word (R101, R103). -/
theorem operand_bits_ne_zero_iff {n m : Nat} (c : CmdWord) (h : n + m = 32) :
    c.extractLsb' (32 + n) m ≠ 0 ↔ 2 ^ n ≤ (unpackCmd c).a0.toNat := by
  rw [← extractLsb'_high_ne_zero_iff _ h]
  exact (congrArg (· ≠ 0) (extractLsb'_extractLsb' c h.le)).to_iff.symm

/-- Settles O3: the fields of the word are those of its header and its operand word `a0`. -/
theorem wordIllegalIffATestHolds : Obligations.WordIllegalIffATestHolds := by
  intro c
  have hres : headerReserved (unpackCmd c).w0 = c.extractLsb' 9 23 := extractLsb'_extractLsb' c (by decide)
  have hop : headerOp (unpackCmd c).w0 = c.extractLsb' 0 8 := extractLsb'_extractLsb' c (by decide)
  have hrxp : headerRxp (unpackCmd c).w0 = c.getLsbD 8 := by simp [headerRxp, unpackCmd]
  rw [decode, decodeCmd_illegal_iff, hres, hop, hrxp, ← operand_bits_ne_zero_iff (m := 31) c rfl,
    ← operand_bits_ne_zero_iff (m := 24) c rfl]
  exact Iff.rfl

/-! ## The opcode table -/

/-- Settles O4: a row's mask takes the whole header but SUBMIT's `rxp`, and the opcode map has one operation a code. -/
theorem tableRowMatchesItsHeadersOnly : Obligations.TableRowMatchesItsHeadersOnly := by
  refine ⟨by decide, row_matches_iff, fun c i hi o => ?_⟩
  obtain ⟨hres, hop, hrxp⟩ := header_of_decodeCmd hi
  rw [row_matches_iff, opOfCode_eq_some_iff.1 hop, opCode_inj]
  exact ⟨fun ⟨_, ho, _⟩ => ho.symm, by rintro rfl; exact ⟨hres, rfl, hrxp⟩⟩

/-! ## Unused operand words -/

/-- Settles O5: the operation named by the header does not read them. -/
theorem unusedOperandWordsAreIgnored : Obligations.UnusedOperandWordsAreIgnored := by
  refine ⟨fun c x1 x2 x3 x4 hc => ?_, fun c x0 hc => ?_, fun c x3 x4 hc => ?_⟩ <;>
    refine decodeCmd_congr rfl fun o ho => ?_
  · cases o with
    | submit => exact absurd ho hc
    | _ => rfl
  · rw [ho] at hc
    cases o with
    | setclient | setcs | setrate | setpol | setpha | wrbyte | rwbyte | submit => exact absurd hc (by decide)
    | _ => rfl
  · cases o with
    | submit => simp [decodeOperands, hc]
    | _ => rfl

/-! ## Words written out -/

/-- Settles O1: the decoder evaluated on the twelve words. -/
theorem writtenOutWordsDecode : Obligations.WrittenOutWordsDecode := by
  simp only [Obligations.WrittenOutWordsDecode, decode_packCmd]
  decide

end Sys2Proof

/-! PROOF. The answer ILLEGAL (`30_encoding.md` R108, `60_exceptions.md` R223): which operations give it, and which steps
record it. -/

namespace Sys2Proof.Machine

/-- A decoded command that is answered ILLEGAL: a test (5) or (6) of R108 fails. -/
def IsIllegal (i : Instr) (s : State) : Prop :=
  (s.inited = false ∧ beforeInit i = false) ∨ (∃ id, i = .setclient id ∧ s.client ≠ none) ∨
    (∃ n w r, i = .submit n w r ∧ ¬ legalHandles w r)

/-- At most one response was given, and it is not ILLEGAL. -/
def AddsNoIllegal (s t : State) : Prop :=
  t.ports.responses = s.ports.responses ∨
    ∃ r, r.status ≠ .illegal ∧ t.ports.responses = s.ports.responses ++ [r]

theorem AddsNoIllegal.of_response {s u : State} {st : Status} (d : Word) (hst : st ≠ .illegal)
    (hr : u.ports.responses = s.ports.responses) : AddsNoIllegal s (respond st d u) :=
  .inr ⟨⟨st, d⟩, hst, by simp [hr]⟩

theorem AddsNoIllegal.noIllegal_iff {s t : State} (h : AddsNoIllegal s t) : State.NoIllegal t ↔ State.NoIllegal s := by
  rcases h with h | ⟨r, hst, h⟩
  · simp only [State.NoIllegal, h]
  · simp [State.NoIllegal, h, or_imp, forall_and, hst]

theorem not_noIllegal_answered (d : Word) (s : State) : ¬ State.NoIllegal (answered .illegal d s) :=
  fun h => h ⟨.illegal, d⟩ (by simp [answered]) rfl

theorem not_addsNoIllegal_answered (d : Word) (s : State) : ¬ AddsNoIllegal s (answered .illegal d s) := by
  simp [AddsNoIllegal, answered]

/-! ## The operations that answer ILLEGAL -/

theorem whenInited_of_not_inited {s : State} (k : Result) (h : s.inited = false) : whenInited s k = illegal s := by
  simp [whenInited, h]

theorem whenInited_illegal (s : State) : whenInited s (illegal s) = illegal s := ite_self _

/-- The operations not accepted before INIT are those with the prologue test (R142, R253). -/
theorem exec_before_init {i : Instr} {s : State} (hinit : s.inited = false) (hi : beforeInit i = false) :
    exec i s = illegal s := by
  cases i with
  | init | setclient | isbusy | gpioinit => cases hi
  | _ => exact whenInited_of_not_inited _ hinit

theorem exec_of_isIllegal {i : Instr} {s : State} (h : IsIllegal i s) :
    exec i s = .next (answered .illegal 0 s) := by
  rcases h with ⟨hinit, hi⟩ | ⟨id, rfl, hclient⟩ | ⟨n, w, r, rfl, hlegal⟩
  · exact exec_before_init hinit hi
  · obtain ⟨id', hid'⟩ := Option.ne_none_iff_exists'.1 hclient
    simp only [exec, execSetclient, hid']
    rfl
  · rw [exec, execSubmit, if_neg (mt (submitLegal_iff w r).1 hlegal), whenInited_illegal]
    rfl

/-- The outcome `o` of an `Issue` step taken in `s` is no next state with an ILLEGAL more. -/
def LegallyAnswered (s : State) (o : Result) : Prop := ∀ t, o = .next t → AddsNoIllegal s t

theorem legallyAnswered_respond {s u : State} {st : Status} (d : Word) (hst : st ≠ .illegal)
    (hr : u.ports.responses = s.ports.responses) : LegallyAnswered s (.next (respond st d u)) := by
  rintro _ ⟨⟩
  exact .of_response d hst hr

theorem legallyAnswered_silent {s u : State} (hr : u.ports.responses = s.ports.responses) :
    LegallyAnswered s (.next u) := by
  rintro _ ⟨⟩
  exact .inl hr

/-- Once INIT has run the prologue test passes (R142). -/
theorem legallyAnswered_whenInited {s : State} {k : Result} (hi : s.inited = true) (hk : LegallyAnswered s k) :
    LegallyAnswered s (whenInited s k) := by
  rwa [whenInited, if_pos hi]

theorem legallyAnswered_whenIdle {s : State} {k : Result} (hk : LegallyAnswered s k) :
    LegallyAnswered s (whenIdle s k) := by
  rcases whenIdle_cases s k with ⟨-, h⟩ | ⟨-, h⟩ <;> rw [h]
  · exact hk
  · exact legallyAnswered_respond 0 (by decide) rfl

theorem legallyAnswered_acceptSubmit (n : Word) (w : Handle) (r : Option Handle) (s : State) :
    LegallyAnswered s (acceptSubmit n w r s) := by
  unfold acceptSubmit
  dsimp only
  split
  · exact legallyAnswered_silent (by simp)
  · obtain ⟨l, h | h⟩ := pushBytes_only_txf
      (memBytes s.mem w.base.toNat (firstBurst (ioLength n w r)))
      { s with xfer.busy := true, xfer.ioLen := ioLength n w r } <;> rw [h]
    · exact legallyAnswered_respond 0 (by decide) rfl
    · exact legallyAnswered_silent (by simp)

/-- With the prologue test passed, a byte operation answers BUSY, or nothing yet (R163). -/
theorem legallyAnswered_byteExchange {s : State} (k : ByteKind) (v : Byte) (hi : s.inited = true) :
    LegallyAnswered s (byteExchange k v s) := by
  refine legallyAnswered_whenInited hi (legallyAnswered_whenIdle ?_)
  split <;> exact legallyAnswered_silent (by simp)

theorem legallyAnswered_execSetrate {s : State} (hz : Word) (hi : s.inited = true) :
    LegallyAnswered s (execSetrate hz s) := by
  refine legallyAnswered_whenInited hi ?_
  split
  · exact legallyAnswered_whenIdle (legallyAnswered_respond hz (by decide) rfl)
  · exact legallyAnswered_respond 0 (by decide) rfl

theorem legallyAnswered_execSubmit {s : State} {w : Handle} {r : Option Handle} (n : Word) (hi : s.inited = true)
    (hlegal : legalHandles w r) : LegallyAnswered s (execSubmit n w r s) := by
  refine legallyAnswered_whenInited hi ?_
  rw [if_pos ((submitLegal_iff w r).2 hlegal)]
  split
  · exact legallyAnswered_respond 0 (by decide) rfl
  · exact legallyAnswered_whenIdle (legallyAnswered_acceptSubmit n w r s)

/-- An operation that passes the tests (5) and (6) of R108 records no ILLEGAL. -/
theorem exec_legallyAnswered {i : Instr} {s : State} (h : ¬ IsIllegal i s) : LegallyAnswered s (exec i s) := by
  simp only [IsIllegal, not_or, not_and, not_exists, Bool.not_eq_false] at h
  obtain ⟨hinit, hclient, hlegal⟩ := h
  have hi : beforeInit i = false → s.inited = true := fun hb => by simpa [hb] using hinit
  cases i with
  | init => exact legallyAnswered_respond 0 (by decide) (by simp)
  | setclient id =>
    have hnone : s.client = none := by simpa using hclient id rfl
    simp only [exec, execSetclient, hnone]
    exact legallyAnswered_respond 0 (by decide) rfl
  | isbusy | gpioinit => exact legallyAnswered_respond _ (by decide) rfl
  | setrate hz => exact legallyAnswered_execSetrate hz (hi rfl)
  | wrbyte | rdbyte | rwbyte => exact legallyAnswered_byteExchange _ _ (hi rfl)
  | submit n w r => exact legallyAnswered_execSubmit n (hi rfl) (by simpa using hlegal n w r rfl)
  | setpol | setpha =>
    exact legallyAnswered_whenInited (hi rfl) (legallyAnswered_whenIdle (legallyAnswered_respond 0 (by decide) rfl))
  | service => exact legallyAnswered_whenInited (hi rfl) (legallyAnswered_silent rfl)
  | setcs | getrate | getpol | getpha | holdlow | rellow =>
    exact legallyAnswered_whenInited (hi rfl) (legallyAnswered_respond _ (by decide) (by simp))

/-- ILLEGAL is the answer, with nothing else changed, in exactly the cases (5) and (6) of R108. -/
theorem exec_eq_answered_illegal_iff (i : Instr) (s : State) :
    exec i s = .next (answered .illegal 0 s) ↔ IsIllegal i s :=
  ⟨fun h => by_contra fun hn => not_addsNoIllegal_answered 0 s (exec_legallyAnswered hn _ h), exec_of_isIllegal⟩

/-! ## The steps that record an ILLEGAL -/

theorem MicroEffect.addsNoIllegal {s t : State} (h : MicroEffect s t) : AddsNoIllegal s t := by
  cases h with
  | completed => exact .of_response 0 (by decide) (by simp)
  | passEnded => exact .of_response 0 (by decide) rfl
  | waitEnded d => exact .of_response d (by decide) rfl
  | _ => exact .inl (by simp)

/-- The `Issue` step of a command that draws an ILLEGAL answers it and nothing else (R108). -/
theorem issueCmd_of_exec_illegal {c : CmdWord} {s : State}
    (h : ∀ i, decode c = .ok i → exec i s = .next (answered .illegal 0 s)) :
    issueCmd c s = .next (answered .illegal 0 s) := by
  cases hd : decode c with
  | ok i => exact (issueCmd_of_ok s hd).trans (h i hd)
  | illegal why => exact issueCmd_of_illegal s hd

/-- The `Issue` step of any other command records none. -/
theorem issueCmd_addsNoIllegal {c : CmdWord} {s t : State}
    (h : ¬ ∀ i, decode c = .ok i → exec i s = .next (answered .illegal 0 s)) (ht : issueCmd c s = .next t) :
    AddsNoIllegal s t := by
  obtain ⟨i, hd, hi⟩ : ∃ i, decode c = .ok i ∧ exec i s ≠ .next (answered .illegal 0 s) := by simpa using h
  rw [issueCmd_of_ok s hd] at ht
  exact exec_legallyAnswered (mt (exec_eq_answered_illegal_iff i s).2 hi) t ht

/-- A step that draws an ILLEGAL records it. -/
theorem not_noIllegal_of_drawsIllegal {s t : State} (h : step s = .next t) (hd : drawsIllegal s) :
    ¬ State.NoIllegal t := by
  obtain ⟨hf, hc, c, rest, henv, hex⟩ := hd
  rw [step_issue_ready hf hc henv, issueCmd_of_exec_illegal hex] at h
  cases h
  exact not_noIllegal_answered 0 _

/-- Every other move of an agent records none (R12). -/
theorem takeMove_addsNoIllegal {s t : State} (hf : s.fault = none) (hd : ¬ drawsIllegal s)
    (h : takeMove s = .next t) : AddsNoIllegal s t := by
  rcases takeMove_cases s with hm | ⟨rest, -, hm⟩ | ⟨c, rest, henv, hc, hm⟩ | ⟨rest, -, hm⟩ | ⟨p, rest, -, hm⟩ |
    ⟨rest, -, hm⟩ | ⟨a, rest, -, -, hm⟩ | ⟨a, v, rest, -, -, hm⟩ <;> rw [hm] at h
  · exact (microStep_effect h).addsNoIllegal
  · exact (microStep_effect h).addsNoIllegal
  · exact issueCmd_addsNoIllegal (s := { s with env := rest }) (fun hex => hd ⟨hf, hc, c, rest, henv, hex⟩) h
  · cases h
    exact .inl (by simp)
  · cases h
    exact .inl (by simp)
  · cases h
    exact .inl rfl
  · exact hostLoad_eq_next h ▸ .inl rfl
  · exact hostStore_eq_next h ▸ .inl rfl

theorem step_addsNoIllegal {s t : State} (h : step s = .next t) (hd : ¬ drawsIllegal s) : AddsNoIllegal s t := by
  by_cases hr : resetNext s
  · obtain ⟨rest, henv⟩ := hr
    rw [step_of_reset henv] at h
    cases h
    exact .inl rfl
  · have hf := no_fault_of_step h hr
    obtain ⟨u, hu, rfl⟩ := onNext_eq_next.1 (step_of_no_fault hf ▸ h)
    exact takeMove_addsNoIllegal (t := u) hf hd hu

/-- A step keeps "no ILLEGAL recorded" iff it draws none (R223). -/
theorem step_noIllegal_iff {s t : State} (h : step s = .next t) :
    State.NoIllegal t ↔ State.NoIllegal s ∧ ¬ drawsIllegal s := by
  by_cases hd : drawsIllegal s
  · simp [hd, not_noIllegal_of_drawsIllegal h hd]
  · simp [hd, (step_addsNoIllegal h hd).noIllegal_iff]

/-- Settles O12: an operation that passes the tests of R108 gives no other ILLEGAL, nor does any other agent's move. -/
theorem illegalAnsweredByExactlyThese : Obligations.IllegalAnsweredByExactlyThese := by
  refine ⟨exec_eq_answered_illegal_iff, fun s t => step_noIllegal_iff, fun start s t h hill ⟨_, hno⟩ => ?_,
    by decide⟩
  obtain ⟨hs, hd⟩ := (step_noIllegal_iff h).1 hno
  exact hill.elim hd (· hs)

end Sys2Proof.Machine

/-! PROOF. The control operations (`40_control_ops.md`): the header word of each, what the prologue tests leave of it,
and what it writes and keeps. -/

namespace Sys2Proof

/-! ## The header words -/

/-- A command whose header word is the operation's, `rxp` clear, is decoded by its operands (R102, R108). -/
theorem decodeCmd_of_w0 (o : Op) {c : Cmd} (h : c.w0 = headerWord o false) : decodeCmd c = decodeOperands o c :=
  decodeCmd_of_header (by rw [h, headerReserved_headerWord]) (by rw [h, headerOp_headerWord, opOfCode_opCode])
    (by simp [h, headerRxp_headerWord])

theorem narrowOperand_of_lt {n : Nat} {a : Word} (hn : n ≤ 32) (h : a.toNat < 2 ^ n) (k : BitVec n → Instr) :
    narrowOperand n a k = .ok (k (a.extractLsb' 0 n)) := by
  rw [narrowOperand, if_pos h, BitVec.setWidth_eq_extractLsb' hn]

theorem narrowOperand_of_le {n : Nat} {a : Word} (h : 2 ^ n ≤ a.toNat) (k : BitVec n → Instr) :
    narrowOperand n a k = .illegal .operandBits :=
  if_neg h.not_gt

end Sys2Proof

namespace Sys2Proof.Machine

/-! ## The prologue tests -/

theorem whenInited_of_inited {s : State} (k : Result) (h : s.inited = true) : whenInited s k = k :=
  if_pos h

theorem whenIdle_of_idle {s : State} (k : Result) (h : s.xfer.busy = false) : whenIdle s k = k := by
  simp [whenIdle, h]

theorem whenIdle_of_busy {s : State} (k : Result) (h : s.xfer.busy = true) :
    whenIdle s k = .next (answered .busy 0 s) :=
  if_pos h

/-! ## The chip-select line -/

/-- The line and the wire trace, and nothing else: what a write of `csid` or `csdef` may disturb (R211 (e)). -/
def withLine (act : Bool) (wire : List WireEvent) (s : State) : State :=
  { s with link.csActive := act, ports.wire := wire }

theorem disturbLine_eq_withLine (k : Nat) (s : State) :
    disturbLine k s = withLine (disturbLine k s).link.csActive (disturbLine k s).ports.wire s := by
  rcases disturbLine_cases k s with h | ⟨-, h⟩ <;> rw [h] <;> rfl

/-- SETCS under an asserted line: the draw keeps the line, or releases it with one event of the old id (R211 (e)). -/
theorem writeCsid_of_asserted (id : Word) {s : State} (h : s.link.csActive = true) :
    ∃ act : Bool, writeCsid id s =
      { withLine act (if act = true then s.ports.wire else s.ports.wire ++ [.csDeassert s.regs.csid]) s with
        regs.csid := id } := by
  rcases disturbLine_cases 1 s with hkept | ⟨-, hreleased⟩
  · exact ⟨true, by rw [writeCsid, hkept, withLine, if_pos rfl, ← h]⟩
  · exact ⟨false, by rw [writeCsid, hreleased]; rfl⟩

/-- RELLOW's write of `csmode` (R141, R211 (c)). -/
theorem writeCsAuto_eq_releasedLine (s : State) :
    writeCsAuto s = { withLine (releasedLine s).1 (releasedLine s).2 s with regs.csmode := .auto } := by
  unfold writeCsAuto releasedLine
  split <;> rfl

/-! ## INIT -/

/-- INIT's writes but for the line and the wire trace, in the document's order (R130). -/
def initRegisters (s : State) : State :=
  { s with
    xfer := { s.xfer with ioLen := 0, txOffset := 0, rxOffset := 0 }
    regs := { s.regs with
      pol := 0, pha := 0, fmt := initFormat, ieTx := false, ieRx := false
      csdef := List.replicate s.params.ncs true, csid := 0, csmode := .hold }
    inited := true }

/-- Whatever its two writes of chip-select fields draw, INIT writes its fields and at most the line (R130, R211 (e)). -/
theorem initFields_eq_withLine (s : State) :
    ∃ act wire, initFields s = withLine act wire (initRegisters s) := by
  dsimp only [initFields, writeCsid, writeCsdef]
  rw [disturbLine_eq_withLine 1, disturbLine_eq_withLine 0]
  exact ⟨_, _, rfl⟩

/-- Settles O14: `initFields` is its fields and the line, and the line is released at most once. -/
theorem initWritesItsFields : Obligations.InitWritesItsFields := by
  refine ⟨fun _ hw => decodeCmd_of_w0 .init hw, fun s => ?_⟩
  obtain ⟨act, wire, heq⟩ := initFields_eq_withLine s
  have hline := initFields_line s
  rw [heq] at hline
  refine ⟨act, wire, ?_, hline⟩
  rw [exec, execInit, heq]
  rfl

/-! ## SETCLIENT and ISBUSY -/

/-- Settles O15: SETCLIENT branches on the client stored so far. -/
theorem setclientStoresTheClientOnce : Obligations.SetclientStoresTheClientOnce := by
  refine ⟨fun _ hw => decodeCmd_of_w0 .setclient hw, fun id s => ⟨fun hnone => ?_, fun hsome => ?_⟩⟩
  · rw [exec, execSetclient, hnone]
    rfl
  · exact exec_of_isIllegal (.inr (.inl ⟨id, rfl, hsome⟩))

/-- Settles O16: ISBUSY has no prologue test. -/
theorem isbusyReportsTheBusyFlag : Obligations.IsbusyReportsTheBusyFlag :=
  ⟨fun _ hw => decodeCmd_of_w0 .isbusy hw, fun _ => rfl⟩

/-! ## SETCS -/

theorem exec_setcs {s : State} (id : Word) (hi : s.inited = true) :
    exec (.setcs id) s = .next (answered .ok 0 (writeCsid id s)) :=
  whenInited_of_inited _ hi

/-- Settles O17: SETCS is the write of `csid`, which disturbs an asserted line only. -/
theorem setcsStoresTheIdUnchecked : Obligations.SetcsStoresTheIdUnchecked := by
  refine ⟨fun _ hw => decodeCmd_of_w0 .setcs hw, fun id s =>
    ⟨fun hi hreleased => ?_, fun hi hasserted => ?_, fun hi => exec_before_init hi rfl⟩⟩
  · rw [exec_setcs id hi, writeCsid, disturbLine_of_released hreleased]
  · obtain ⟨act, hwrite⟩ := writeCsid_of_asserted id hasserted
    refine ⟨act, ?_⟩
    rw [exec_setcs id hi, hwrite]
    rfl

/-! ## SETRATE and GETRATE -/

/-- The divisor of an accepted rate fits its 12 bits (R134). -/
theorem rateDivisor_toNat {hz : Word} (hlow : 1954 ≤ hz.toNat) :
    (rateDivisor hz).toNat = 8000000 / hz.toNat - 1 ∧ (rateDivisor hz).toNat ≤ 4093 := by
  have hquot : 8000000 / hz.toNat ≤ 8000000 / 1954 := Nat.div_le_div_left hlow (by decide)
  have hdiv : (rateDivisor hz).toNat = 8000000 / hz.toNat - 1 := by
    rw [rateDivisor, Config.refHz, BitVec.toNat_ofNat, Nat.mod_eq_of_lt (by omega)]
  omega

theorem rateInRange_eq_false_iff (hz : Word) : rateInRange hz = false ↔ hz.toNat < 1954 ∨ 8000000 < hz.toNat := by
  rw [← Bool.not_eq_true, rateInRange_iff]
  omega

theorem exec_setrate_of_out_of_range {hz : Word} {s : State} (hi : s.inited = true) (hr : rateInRange hz = false) :
    exec (.setrate hz) s = .next (answered .inval 0 s) := by
  rw [exec, execSetrate, whenInited_of_inited _ hi, hr]
  rfl

theorem exec_setrate_of_in_range {hz : Word} {s : State} (hi : s.inited = true) (hr : rateInRange hz = true) :
    exec (.setrate hz) s =
      whenIdle s (.next (answered .ok hz { s with regs.div := rateDivisor hz, regs.divSet := true })) := by
  rw [exec, execSetrate, whenInited_of_inited _ hi, if_pos hr]
  rfl

/-- Settles O18: the tests of SETRATE in their order, the range, then `busy`. -/
theorem setrateProgramsTheDivisor : Obligations.SetrateProgramsTheDivisor := by
  refine ⟨fun _ hw => decodeCmd_of_w0 .setrate hw, fun hz s hi => ⟨fun hout =>
    exec_setrate_of_out_of_range hi ((rateInRange_eq_false_iff hz).2 hout), fun hlow hhigh => ?_⟩⟩
  rw [exec_setrate_of_in_range hi ((rateInRange_iff hz).2 ⟨hlow, hhigh⟩)]
  obtain ⟨hdiv, hfits⟩ := rateDivisor_toNat hlow
  exact ⟨whenIdle_of_busy _, fun hb => ⟨rateDivisor hz, true, hdiv, hfits, whenIdle_of_idle _ hb⟩⟩

theorem exec_getrate {s : State} (hi : s.inited = true) :
    exec .getrate s = .next (answered .ok (dividedRate (divisor s)) s) :=
  whenInited_of_inited _ hi

/-- Settles O19: the 12-bit divisor bounds the quotient. -/
theorem getrateRecoversTheRate : Obligations.GetrateRecoversTheRate := by
  refine ⟨fun _ hw => decodeCmd_of_w0 .getrate hw, fun s hi =>
    ⟨_, exec_getrate hi, dividedRate_toNat _, ?_, ?_⟩⟩ <;> rw [dividedRate_toNat]
  · have hfit : (divisor s).toNat + 1 ≤ 4096 := (divisor s).isLt
    exact Nat.div_le_div_left (a := 8000000) hfit (Nat.succ_pos _)
  · exact Nat.div_le_self ..

/-- An accepted rate divides the reference clock at least once. -/
theorem rateQuotient_pos {hz : Word} (hr : rateInRange hz = true) : 0 < 8000000 / hz.toNat := by
  obtain ⟨hlow, hhigh⟩ := (rateInRange_iff hz).1 hr
  exact Nat.div_pos hhigh (by omega)

/-- The rate of a programmed divisor: the reference clock floor-divided twice (R134, R135, R264). -/
theorem dividedRate_rateDivisor_toNat {hz : Word} (hr : rateInRange hz = true) :
    (dividedRate (rateDivisor hz)).toNat = 8000000 / (8000000 / hz.toNat) := by
  obtain ⟨hlow, -⟩ := (rateInRange_iff hz).1 hr
  rw [dividedRate_toNat, (rateDivisor_toNat hlow).1, Nat.sub_add_cancel (rateQuotient_pos hr)]

/-- SETRATE answers OK only where it programs the divisor (R134). -/
theorem exec_setrate_ok {hz : Word} {s t : State} (h : exec (.setrate hz) s = .next t)
    (hok : t.ports.responses = s.ports.responses ++ [⟨.ok, hz⟩]) :
    s.inited = true ∧ rateInRange hz = true ∧
      t = answered .ok hz { s with regs.div := rateDivisor hz, regs.divSet := true } := by
  have hno (st : Status) (hst : st ≠ .ok) (ht : t = answered st 0 s) : False := by
    subst ht
    simp [answered, hst] at hok
  rcases Bool.eq_false_or_eq_true s.inited with hi | hi
  · rcases Bool.eq_false_or_eq_true (rateInRange hz) with hr | hr
    · rw [exec_setrate_of_in_range hi hr] at h
      rcases whenIdle_cases s _ with ⟨-, hw⟩ | ⟨-, hw⟩ <;> rw [hw] at h <;> cases h
      · exact ⟨hi, hr, rfl⟩
      · exact (hno .busy (by decide) rfl).elim
    · rw [exec_setrate_of_out_of_range hi hr] at h
      cases h
      exact (hno .inval (by decide) rfl).elim
  · rw [exec_before_init hi rfl] at h
    cases h
    exact (hno .illegal (by decide) rfl).elim

/-- Settles O20: GETRATE divides by the quotient SETRATE stored. -/
theorem achievedRateIsNotBelowTheRequest : Obligations.AchievedRateIsNotBelowTheRequest := by
  intro hz s t h hok
  obtain ⟨hi, hr, rfl⟩ := exec_setrate_ok h hok
  have hrate := dividedRate_rateDivisor_toNat hr
  refine ⟨dividedRate (rateDivisor hz), exec_getrate hi, ?_, ?_⟩
  · rw [hrate, Nat.le_div_iff_mul_le (rateQuotient_pos hr)]
    exact Nat.mul_div_le ..
  · rw [← BitVec.toNat_inj, hrate]

/-! ## SETPOL, GETPOL, SETPHA, GETPHA -/

/-- Settles O21: a setter has the `busy` test, a getter has not. -/
theorem polarityAndPhaseAreSetAndRead : Obligations.PolarityAndPhaseAreSetAndRead := by
  refine ⟨fun c ha => ⟨fun hw => ?_, fun hw => ?_⟩, fun c ha hw => ?_, fun c =>
    ⟨fun hw => decodeCmd_of_w0 .getpol hw, fun hw => decodeCmd_of_w0 .getpha hw⟩, fun b s hi => ?_⟩
  · exact (decodeCmd_of_w0 .setpol hw).trans (narrowOperand_of_lt (by decide) ha _)
  · exact (decodeCmd_of_w0 .setpha hw).trans (narrowOperand_of_lt (by decide) ha _)
  · rcases hw with hw | hw
    · exact (decodeCmd_of_w0 .setpol hw).trans (narrowOperand_of_le ha _)
    · exact (decodeCmd_of_w0 .setpha hw).trans (narrowOperand_of_le ha _)
  · simp only [exec, execSetpol, execSetpha, execGetpol, execGetpha, whenInited_of_inited _ hi]
    exact ⟨fun hb => ⟨whenIdle_of_idle _ hb, whenIdle_of_idle _ hb⟩,
      fun hb => ⟨whenIdle_of_busy _ hb, whenIdle_of_busy _ hb⟩, rfl, rfl⟩

/-! ## HOLDLOW and RELLOW -/

/-- Settles O22: the two writes of `csmode`, with no `busy` test. -/
theorem holdlowAndRellowSetTheFraming : Obligations.HoldlowAndRellowSetTheFraming := by
  refine ⟨fun _ => ⟨fun hw => decodeCmd_of_w0 .holdlow hw, fun hw => decodeCmd_of_w0 .rellow hw⟩, fun s hi =>
    ⟨whenInited_of_inited _ hi, ?_⟩⟩
  rw [exec, execRellow, whenInited_of_inited _ hi, writeCsAuto_eq_releasedLine]
  rfl

/-! ## The frame -/

/-- The outcome `o` of an `Issue` step taken in `s` is no next state with the responses of `s`. -/
def Answers (s : State) (o : Result) : Prop := ∀ t, o = .next t → t.ports.responses ≠ s.ports.responses

theorem answers_respond {s u : State} (st : Status) (d : Word) (hr : u.ports.responses = s.ports.responses) :
    Answers s (.next (respond st d u)) := by
  rintro t ⟨⟩
  simp [hr]

theorem answers_whenInited {s : State} {k : Result} (hk : Answers s k) : Answers s (whenInited s k) := by
  rcases whenInited_cases s k with ⟨-, h⟩ | ⟨-, h⟩ <;> rw [h]
  · exact hk
  · exact answers_respond _ _ rfl

theorem answers_whenIdle {s : State} {k : Result} (hk : Answers s k) : Answers s (whenIdle s k) := by
  rcases whenIdle_cases s k with ⟨-, h⟩ | ⟨-, h⟩ <;> rw [h]
  · exact hk
  · exact answers_respond _ _ rfl

/-- A control operation finishes in its `Issue` step: it neither waits nor faults, it answers (R12). -/
theorem exec_control_answers {i : Instr} (s : State) (hi : isControl i = true) : Answers s (exec i s) := by
  cases i with
  | wrbyte | rdbyte | rwbyte | submit | service => cases hi
  | init => exact answers_respond _ _ (by simp)
  | isbusy | gpioinit => exact answers_respond _ _ rfl
  | setclient id =>
    rw [exec, execSetclient]
    split <;> exact answers_respond _ _ rfl
  | setcs | rellow => exact answers_whenInited (answers_respond _ _ (by simp))
  | setrate hz =>
    refine answers_whenInited ?_
    split
    · exact answers_whenIdle (answers_respond _ _ rfl)
    · exact answers_respond _ _ rfl
  | setpol | setpha => exact answers_whenInited (answers_whenIdle (answers_respond _ _ rfl))
  | getrate | getpol | getpha | holdlow => exact answers_whenInited (answers_respond _ _ rfl)

/-- Settles O23: of the effects of an `Issue` step those that answer a control operation, each by the laws of the named
writes it is made of. -/
theorem controlOperationFrames : Obligations.ControlOperationFrames := by
  intro i s t hi h
  have hanswers := exec_control_answers s hi t h
  cases exec_effect h with
  | byteOverflow => exact absurd (by simp) hanswers
  | bytePushed => exact absurd rfl hanswers
  | submitFault | submitted | service => cases hi
  | answer | init | setclient | setcs | setrate | setpol | setpha | holdlow | rellow | gpioinit => simp

end Sys2Proof.Machine

/-! PROOF. The byte operations (`41_byte_ops.md`): their header words, the exchange of R163 branch by branch, and why an idle
block raises no `irq` (R164). -/

namespace Sys2Proof

/-! ## The header words -/

/-- WRBYTE and RWBYTE read the low byte of their operand word (R160, R162). -/
theorem decodeCmd_byte_operand {c : Cmd} (ha : c.a0.toNat < 256) :
    (c.w0 = 0x0000000C → decodeCmd c = .ok (.wrbyte (c.a0.extractLsb' 0 8))) ∧
      (c.w0 = 0x0000000E → decodeCmd c = .ok (.rwbyte (c.a0.extractLsb' 0 8))) :=
  ⟨fun hw => (decodeCmd_of_w0 .wrbyte hw).trans (narrowOperand_of_lt (by decide) ha _),
    fun hw => (decodeCmd_of_w0 .rwbyte hw).trans (narrowOperand_of_lt (by decide) ha _)⟩

/-- An operand above a byte is illegal (R108 (4)). -/
theorem decodeCmd_wide_byte_operand {c : Cmd} (ha : 256 ≤ c.a0.toNat) (hw : c.w0 = 0x0000000C ∨ c.w0 = 0x0000000E) :
    decodeCmd c = .illegal .operandBits := by
  rcases hw with hw | hw
  · exact (decodeCmd_of_w0 .wrbyte hw).trans (narrowOperand_of_le ha _)
  · exact (decodeCmd_of_w0 .rwbyte hw).trans (narrowOperand_of_le ha _)

end Sys2Proof

namespace Sys2Proof.Machine

/-! ## The exchange -/

/-- `tx_full` with the capacity as a numeral (R8, R34). -/
theorem txFull_iff (s : State) : txFull s = true ↔ s.link.txf.length = 8 :=
  decide_eq_true_iff

theorem byteExchange_of_busy {s : State} (k : ByteKind) (v : Byte) (hi : s.inited = true) (hb : s.xfer.busy = true) :
    byteExchange k v s = .next (answered .busy 0 s) :=
  (whenInited_of_inited _ hi).trans (whenIdle_of_busy _ hb)

/-- An idle block pushes the byte and waits, unless TXF is full (R163, R231). -/
theorem byteExchange_of_idle {s : State} (k : ByteKind) (v : Byte) (hi : s.inited = true) (hb : s.xfer.busy = false) :
    byteExchange k v s =
      if txFull s then .next (raiseHardFault .txOverflow s) else .next { pushTx v s with cur := .bWait k } :=
  (whenInited_of_inited _ hi).trans (whenIdle_of_idle _ hb)

theorem byteExchange_of_room {s : State} (k : ByteKind) (v : Byte) (hi : s.inited = true) (hb : s.xfer.busy = false)
    (hroom : s.link.txf.length ≠ 8) : byteExchange k v s = .next { pushTx v s with cur := .bWait k } := by
  rw [byteExchange_of_idle k v hi hb, if_neg ((txFull_iff s).not.2 hroom)]

theorem byteExchange_of_full {s : State} (k : ByteKind) (v : Byte) (hi : s.inited = true) (hb : s.xfer.busy = false)
    (hfull : s.link.txf.length = 8) (hf : s.fault = none) :
    byteExchange k v s = .next { s with fault := some .txOverflow } := by
  rw [byteExchange_of_idle k v hi hb, if_pos ((txFull_iff s).2 hfull),
    raiseHardFault_of_none _ hf]

/-- WRBYTE drops the byte it received; the others answer it (R160, R161, R162). -/
theorem byteAnswer_eq (k : ByteKind) (r : Byte) : byteAnswer k r = if k = .wr then 0 else r.setWidth 32 := by
  cases k <;> rfl

theorem microStep_of_wait {s : State} {k : ByteKind} (hc : s.cur = .bWait k) : microStep s = microByteWait k s := by
  rw [microStep, hc]

theorem microByteWait_of_empty {s : State} (k : ByteKind) (hrxf : s.link.rxf = []) :
    microByteWait k s = .next s := by
  rw [microByteWait, hrxf]

theorem microByteWait_of_byte {s : State} {r : Byte} {rest : List Byte} (k : ByteKind)
    (hrxf : s.link.rxf = r :: rest) :
    microByteWait k s = .next (answered .ok (byteAnswer k r) { s with link.rxf := rest, cur := .none }) := by
  rw [microByteWait, hrxf]
  rfl

/-- Settles O25: each of the three operations is the exchange with its kind and its byte. -/
theorem byteExchangePushesWaitsAndPops : Obligations.ByteExchangePushesWaitsAndPops := by
  refine ⟨fun _ => decodeCmd_byte_operand, fun _ => decodeCmd_wide_byte_operand,
    fun _ hw => decodeCmd_of_w0 .rdbyte hw, fun v s i k sent hop hi => ?_⟩
  have hexec : exec i s = byteExchange k sent s := by
    rcases hop with ⟨rfl, rfl, rfl⟩ | ⟨rfl, rfl, rfl⟩ | ⟨rfl, rfl, rfl⟩ <;> rfl
  rw [hexec]
  refine ⟨byteExchange_of_busy k sent hi, byteExchange_of_room k sent hi, byteExchange_of_full k sent hi,
    fun hc hrxf => ?_, fun r rest hc hrxf => ?_⟩
  · rw [microStep_of_wait hc, microByteWait_of_empty k hrxf]
  · rw [microStep_of_wait hc, microByteWait_of_byte k hrxf, byteAnswer_eq]

/-! ## The interrupt line of an idle block -/

/-- With no source armed nothing is pending (R33, R42). -/
theorem irq_of_disarmed {s : State} (hi : s.inited = true) (htx : s.regs.ieTx = false) (hrx : s.regs.ieRx = false) :
    irq s = false := by
  simp [irq, ipRx, ipTx, hi, htx, hrx]

/-- No operation undoes INIT (R43). -/
theorem IssueEffect.keeps_inited {s t : State} {i : Instr} (h : IssueEffect s i t) (hi : s.inited = true) :
    t.inited = true := by
  cases h with
  | init => simp
  | _ => simpa [primed] using hi

/-- A byte operation writes no enable bit (R164 (c)). -/
theorem exec_byteOp_enables {s t : State} {i : Instr} {v : Byte} (hop : i = .wrbyte v ∨ i = .rdbyte ∨ i = .rwbyte v)
    (h : exec i s = .next t) : enables t = enables s := by
  rcases (exec_effect h).enables_eq with rfl | ⟨n, w, r, rfl⟩ | heq
  · simp at hop
  · simp at hop
  · exact heq

/-- Settles O26: the invariant disarms an idle block, and a byte operation leaves it so. -/
theorem idleBlockRaisesNoIrq : Obligations.IdleBlockRaisesNoIrq := by
  intro s h hi hb
  obtain ⟨htx, hrx⟩ := h.idle_disarmed hb
  refine ⟨irq_of_disarmed hi htx hrx, htx, hrx, fun i t ⟨v, hop⟩ hexec => ?_⟩
  have hkept := exec_byteOp_enables hop hexec
  exact irq_of_disarmed ((exec_effect hexec).keeps_inited hi) ((congrArg Prod.fst hkept).trans htx)
    ((congrArg Prod.snd hkept).trans hrx)

end Sys2Proof.Machine

/-! PROOF. SUBMIT (`42_submit.md`): its header words, and the branches of R170 in their order. -/

namespace Sys2Proof

/-! ## The header words -/

/-- SUBMIT reads a read handle iff `rxp` is 1 (R103, R104). -/
theorem decodeCmd_submit {c : Cmd} {rxp : Bool} (hw : c.w0 = headerWord .submit rxp) :
    decodeCmd c = .ok (.submit c.a0 ⟨c.a1, c.a2⟩ (if rxp then some ⟨c.a3, c.a4⟩ else none)) := by
  rw [decodeCmd_of_header (by rw [hw, headerReserved_headerWord]) (by rw [hw, headerOp_headerWord, opOfCode_opCode])
    fun _ => rfl, decodeOperands, hw, headerRxp_headerWord]

end Sys2Proof

namespace Sys2Proof.Machine

/-! ## The first burst and the armed transfer -/

/-- `io_len` fits a word (R172). -/
theorem ioLength_eq_ofNat (n : Word) (w : Handle) (r : Option Handle) :
    ioLength n w r = BitVec.ofNat 32 (ioLenNat n w r) := by
  rw [← ioLength_toNat, BitVec.ofNat_toNat, BitVec.setWidth_eq]

/-- The first bytes of a range are a range (R73). -/
theorem memBytes_take (m : Memory) (a : Nat) {k n : Nat} (h : k ≤ n) : (memBytes m a n).take k = memBytes m a k := by
  obtain ⟨d, rfl⟩ := Nat.exists_eq_add_of_le h
  rw [memBytes_append, List.take_left' (memBytes_length m a k)]

/-- What an accepted SUBMIT leaves of the priming: the cells, the lengths and offsets, the threshold and the enables
(R170, R174). -/
theorem armTransfer_primed (w : Handle) (r : Option Handle) (cnt : Nat) (io : Word) (l : List Byte) (s : State) :
    armTransfer w r cnt (primed io l s) =
      { s with
        xfer :=
          { busy := true
            txc := some w
            rxc := if r = none then s.xfer.rxc else r
            ioLen := io
            txOffset := BitVec.ofNat 32 cnt
            rxOffset := 0 }
        regs := { s.regs with
          rxmark := BitVec.ofNat 3 (cnt - 1)
          ieRx := true
          ieTx := if cnt < io.toNat then true else s.regs.ieTx }
        link := { s.link with txf := l } } := by
  cases r <;> simp [armTransfer, primed, burstMark] <;> rfl

/-! ## The branches of SUBMIT -/

section
variable {n : Word} {w : Handle} {r : Option Handle} {s : State}

/-- After INIT, with legal handles, the zero length is tested before BUSY (R175, R224). -/
theorem exec_submit_of_legal (hi : s.inited = true) (hl : legalHandles w r) :
    exec (.submit n w r) s =
      if txLength n w = 0 then .next (answered .inval 0 s) else whenIdle s (acceptSubmit n w r s) :=
  (whenInited_of_inited _ hi).trans (if_pos ((submitLegal_iff w r).2 hl))

theorem exec_submit_of_positive (hi : s.inited = true) (hl : legalHandles w r) (htx : 0 < txLenNat n w) :
    exec (.submit n w r) s = whenIdle s (acceptSubmit n w r s) := by
  rw [exec_submit_of_legal hi hl, if_neg (mt (txLength_eq_zero_iff n w).1 htx.ne')]

/-- A SUBMIT with nothing to move is a hard fault of a block already busy (R174). -/
theorem acceptSubmit_of_empty_burst (hf : s.fault = none) (hio : ioLenNat n w r = 0) :
    acceptSubmit n w r s =
      .next { s with
        xfer := { s.xfer with busy := true, ioLen := 0 }
        fault := some .watermarkUnderflow } := by
  rw [acceptSubmit, firstBurst_ioLength, ioLength_eq_ofNat, hio]
  exact congrArg Host.Outcome.next (raiseHardFault_of_none _ hf)

/-- With something to move there is a first burst (R173). -/
theorem firstBurst_ne_zero (hio : 0 < ioLenNat n w r) : firstBurst (ioLength n w r) ≠ 0 := by
  rw [firstBurst_ioLength]
  omega

/-- A TXF without room takes the bytes that fit and is a hard fault (R173, R231). -/
theorem acceptSubmit_of_overflow (hf : s.fault = none) (hio : 0 < ioLenNat n w r) (hroom : s.link.txf.length ≤ 8)
    (hfull : 8 < s.link.txf.length + min 7 (ioLenNat n w r)) :
    acceptSubmit n w r s =
      .next { s with
        xfer := { s.xfer with busy := true, ioLen := BitVec.ofNat 32 (ioLenNat n w r) }
        link := { s.link with txf := s.link.txf ++ memBytes s.mem w.base.toNat (8 - s.link.txf.length) }
        fault := some .txOverflow } := by
  have hfit : 8 - s.link.txf.length ≤ min 7 (ioLenNat n w r) := by omega
  unfold acceptSubmit
  dsimp only
  rw [if_neg (firstBurst_ne_zero hio), firstBurst_ioLength,
    pushBytes_overflows (by exact hroom) (by rwa [memBytes_length]), memBytes_take _ _ (by exact hfit), ioLength_eq_ofNat]
  exact congrArg Host.Outcome.next (raiseHardFault_of_none _ hf)

/-- With room for the first burst the transfer is armed and answered OK (R170, R173, R174). -/
theorem acceptSubmit_of_room (hio : 0 < ioLenNat n w r) (hfits : s.link.txf.length + min 7 (ioLenNat n w r) ≤ 8) :
    acceptSubmit n w r s =
      .next (answered .ok 0 (armTransfer w r (min 7 (ioLenNat n w r))
        (primed (BitVec.ofNat 32 (ioLenNat n w r))
          (s.link.txf ++ memBytes s.mem w.base.toNat (min 7 (ioLenNat n w r))) s))) := by
  unfold acceptSubmit
  dsimp only
  rw [if_neg (firstBurst_ne_zero hio), firstBurst_ioLength, pushBytes_fits (by rwa [memBytes_length]), ioLength_eq_ofNat]
  rfl

end

/-- Settles O27: the prologue tests in their order, then the first burst against `io_len` and the room in TXF. -/
theorem submitFollowsItsRules : Obligations.SubmitFollowsItsRules := by
  refine ⟨fun _ => ⟨fun hw => decodeCmd_submit (rxp := false) hw, fun hw => decodeCmd_submit (rxp := true) hw⟩,
    fun n w r s hi => ⟨fun hl => ?illegal, fun hl htx => ?inval, fun hl htx hb => ?busy, fun hl htx hb hf => ?accept⟩⟩
  case illegal => exact exec_of_isIllegal (.inr (.inr ⟨n, w, r, rfl, hl⟩))
  case inval => rw [exec_submit_of_legal hi hl, if_pos ((txLength_eq_zero_iff n w).2 htx)]
  case busy => rw [exec_submit_of_positive hi hl htx, whenIdle_of_busy _ hb]
  case accept =>
    rw [exec_submit_of_positive hi hl htx, whenIdle_of_idle _ hb]
    refine ⟨acceptSubmit_of_empty_burst hf, acceptSubmit_of_overflow hf, fun hio hfits => ?_⟩
    rw [acceptSubmit_of_room hio hfits, armTransfer_primed, ← ioLength_eq_ofNat, ioLength_toNat]

end Sys2Proof.Machine

/-! PROOF. The service pass (`43_service.md`): the micro-steps branch by branch, the whole drain and the whole refill, and the
passes made of them. -/

namespace Sys2Proof.Machine

/-! ## SERVICE and the two tests -/

theorem exec_service {s : State} (hi : s.inited = true) : exec .service s = .next { s with cur := .sRxt } :=
  whenInited_of_inited _ hi

/-- Settles O29: SERVICE has the INIT test only. -/
theorem serviceStartsAPass : Obligations.ServiceStartsAPass :=
  ⟨fun _ hw => decodeCmd_of_w0 .service hw, fun _ => ⟨exec_service, fun hi => exec_before_init hi rfl⟩⟩

theorem ipRx_iff (s : State) : ipRx s = true ↔ s.regs.ieRx = true ∧ s.regs.rxmark.toNat < s.link.rxf.length := by
  simp [ipRx, rxLevel]

/-- With `TXMARK` 1 the transmit level condition is an empty TXF (R8, R33). -/
theorem ipTx_iff (s : State) : ipTx s = true ↔ s.regs.ieTx = true ∧ s.link.txf = [] := by
  simp [ipTx, txLevel, Config.txMark]

theorem microStep_rxTest_of_pending {s : State} (hc : s.cur = .sRxt) (hip : ipRx s = true) :
    microStep s = .next { s with cur := .sRxl } := by
  rw [microStep, hc, microRxTest, if_pos hip]

theorem microStep_rxTest_of_clear {s : State} (hc : s.cur = .sRxt) (hip : ¬ ipRx s = true) :
    microStep s = .next { s with cur := .sTxt } := by
  rw [microStep, hc, microRxTest, if_neg hip]

/-- Settles O30: the test is the receive-pending flag. -/
theorem receiveTestBranchesOnThePendingFlag : Obligations.ReceiveTestBranchesOnThePendingFlag := by
  intro s hc
  rw [← ipRx_iff]
  exact ⟨microStep_rxTest_of_pending hc, microStep_rxTest_of_clear hc⟩

theorem microStep_of_txTest {s : State} (hc : s.cur = .sTxt) : microStep s = microTxTest s := by
  rw [microStep, hc]

/-- With the flag set and nothing to send, the empty burst (R185, R233). -/
theorem microTxTest_of_empty_burst {s : State} (hf : s.fault = none) (hip : ipTx s = true)
    (hend : burstEnd s.xfer.txOffset s.xfer.ioLen = s.xfer.txOffset) :
    microTxTest s = .next { s with fault := some .watermarkUnderflow } := by
  rw [microTxTest, if_pos hip, if_pos hend, raiseHardFault_of_none _ hf]

/-- With the flag set and bytes to send the refill loop starts at `tx_offset` (R185). -/
theorem microTxTest_of_pending {s : State} (hip : ipTx s = true)
    (hend : burstEnd s.xfer.txOffset s.xfer.ioLen ≠ s.xfer.txOffset) :
    microTxTest s = .next { s with
      cur := .sTxl s.xfer.txOffset s.xfer.txOffset (burstEnd s.xfer.txOffset s.xfer.ioLen) } := by
  rw [microTxTest, if_pos hip, if_neg hend]

theorem microTxTest_of_clear {s : State} (hip : ¬ ipTx s = true) : microTxTest s = .next { s with cur := .sFin } :=
  if_neg hip

theorem burstEnd_eq_iff (tx io : Word) : burstEnd tx io = tx ↔ min (tx.toNat + 7) io.toNat = tx.toNat := by
  rw [← BitVec.toNat_inj, burstEnd_toNat]

/-- Settles O32: the test is the transmit-pending flag, and the burst is empty iff its end is `tx_offset`. -/
theorem transmitTestBranchesOnThePendingFlag : Obligations.TransmitTestBranchesOnThePendingFlag := by
  intro s hf hc
  rw [← ipTx_iff, microStep_of_txTest hc]
  exact ⟨fun hip => ⟨fun hend => microTxTest_of_empty_burst hf hip ((burstEnd_eq_iff ..).2 hend),
    fun hend => microTxTest_of_pending hip (mt (burstEnd_eq_iff ..).1 hend)⟩, microTxTest_of_clear⟩

/-! ## The bytes the drain stores -/

/-- `bs` stored from address `a` on (R73, R183). -/
def storeBytes (m : Memory) (a : Nat) : List Byte → Memory
  | [] => m
  | b :: bs => storeBytes (memWrite m a b) (a + 1) bs

theorem memRead_storeBytes_outside {bs : List Byte} {m : Memory} {a b : Nat}
    (h : ∀ j, j < bs.length → b ≠ a + j) : memRead (storeBytes m a bs) b = memRead m b := by
  induction bs generalizing m a with
  | nil => rfl
  | cons v bs ih =>
    have hfirst : b ≠ a := h 0 (Nat.succ_pos _)
    have hrest (j : Nat) (hj : j < bs.length) : b ≠ a + 1 + j := by
      have := h (j + 1) (Nat.succ_lt_succ hj)
      omega
    rw [storeBytes, ih hrest, memRead_memWrite_other m v hfirst]

/-- Bytes stored inside BUF read back in order (R72, R73). -/
theorem memBytes_storeBytes {bs : List Byte} {m : Memory} {a : Nat} (hm : Memory.wf m = true)
    (ha : a + bs.length ≤ Config.bufSize) : memBytes (storeBytes m a bs) a bs.length = bs := by
  induction bs generalizing m a with
  | nil => rfl
  | cons v bs ih =>
    rw [List.length_cons] at ha
    rw [storeBytes, List.length_cons, memBytes, memRead_storeBytes_outside (by omega), memRead_memWrite_same hm,
      ih (Memory.wf_memWrite hm (by omega) v) (by omega)]

/-- BUF after the drain of `bs`: stored from `rx_offset` on in the read buffer, dropped where there is none (R183). -/
def drainMem (s : State) (bs : List Byte) : Memory :=
  match s.xfer.rxc with
  | none => s.mem
  | some r => storeBytes s.mem (r.base.toNat + s.xfer.rxOffset.toNat) bs

theorem drainMem_of_no_buffer {s : State} (bs : List Byte) (hr : s.xfer.rxc = none) : drainMem s bs = s.mem := by
  rw [drainMem, hr]

theorem drainMem_of_buffer {s : State} {r : Handle} (bs : List Byte) (hr : s.xfer.rxc = some r) :
    drainMem s bs = storeBytes s.mem (r.base.toNat + s.xfer.rxOffset.toNat) bs := by
  rw [drainMem, hr]

@[simp] theorem drainMem_nil (s : State) : drainMem s [] = s.mem := by
  unfold drainMem
  split <;> rfl

/-- The bytes of the transfer stand in the read buffer (R183). -/
theorem Inv.memBytes_drainMem {s : State} {r : Handle} {bs : List Byte} (h : Inv s) (hr : s.xfer.rxc = some r)
    (hbs : s.xfer.rxOffset.toNat + bs.length ≤ s.xfer.ioLen.toNat) :
    memBytes (drainMem s bs) (r.base.toNat + s.xfer.rxOffset.toNat) bs.length = bs := by
  obtain ⟨hwf, hlen⟩ := h.rxHolds r hr
  rw [handleWf_iff] at hwf
  rw [drainMem_of_buffer bs hr]
  exact memBytes_storeBytes h.mem (by unfold Config.bufSize; omega)

/-- No byte of the write buffer changes: the buffers are disjoint (R77). -/
theorem Inv.memBytes_drainMem_write_buffer {s : State} {w : Handle} {bs : List Byte} {off n : Nat} (h : Inv s)
    (hw : s.xfer.txc = some w) (hbs : s.xfer.rxOffset.toNat + bs.length ≤ s.xfer.ioLen.toNat)
    (hn : off + n ≤ s.xfer.ioLen.toNat) :
    memBytes (drainMem s bs) (w.base.toNat + off) n = memBytes s.mem (w.base.toNat + off) n := by
  refine memBytes_congr fun i hi => ?_
  cases hr : s.xfer.rxc with
  | none => rw [drainMem_of_no_buffer bs hr]
  | some r =>
    rw [drainMem_of_buffer bs hr, Nat.add_assoc]
    refine memRead_storeBytes_outside fun j hj => ?_
    rw [Nat.add_assoc]
    exact h.addresses_disjoint hw hr (by omega) (by omega)

/-! ## The drain -/

theorem microStep_of_drain {s : State} (hc : s.cur = .sRxl) : microStep s = microDrain s := by
  rw [microStep, hc]

theorem microDrain_of_end {s : State} (hend : s.xfer.rxOffset = s.xfer.txOffset) :
    microDrain s = .next (drainEnd s) :=
  if_pos hend

theorem drainEnd_of_all_sent {s : State} (hio : s.xfer.txOffset = s.xfer.ioLen) :
    drainEnd s = { s with cur := .sTxt } :=
  if_pos hio

theorem drainEnd_of_more_to_send {s : State} (hio : s.xfer.txOffset ≠ s.xfer.ioLen) :
    drainEnd s = { s with regs.ieTx := true, regs.ieRx := false, cur := .sTxt } :=
  if_neg hio

theorem microDrain_of_empty {s : State} (hf : s.fault = none) (hne : s.xfer.rxOffset ≠ s.xfer.txOffset)
    (hrxf : s.link.rxf = []) : microDrain s = .next { s with fault := some .rxFifoEmpty } := by
  rw [microDrain, if_neg hne, hrxf, raiseHardFault_of_none _ hf]

theorem Inv.rxOffset_lt_ioLen {s : State} (h : Inv s) (hne : s.xfer.rxOffset ≠ s.xfer.txOffset) :
    s.xfer.rxOffset.toNat < s.xfer.ioLen.toNat := by
  have := h.rxLeTx
  have := h.txLeIo
  have := mt BitVec.eq_of_toNat_eq hne
  omega

/-- A pop with its byte stored, or dropped where there is no read buffer (R182, R183). -/
def popped (v : Byte) (rest : List Byte) (s : State) : State := { drained rest s with mem := drainMem s [v] }

theorem microDrain_of_byte {s : State} {v : Byte} {rest : List Byte} (h : Inv s)
    (hne : s.xfer.rxOffset ≠ s.xfer.txOffset) (hrxf : s.link.rxf = v :: rest) :
    microDrain s = .next (popped v rest s) := by
  rw [microDrain, if_neg hne, hrxf, popped]
  cases hr : s.xfer.rxc with
  | none => rw [drainMem_of_no_buffer [v] hr]; rfl
  | some r =>
    rw [drainMem_of_buffer [v] hr]
    exact atAddress_of_lt _ (h.rxHolds.address_lt hr (h.rxOffset_lt_ioLen hne))

/-- Settles O31: the branches of `microDrain`; a store is one write at an offset below `io_len`, inside the read handle. -/
theorem drainMicroStepPopsOneByte : Obligations.DrainMicroStepPopsOneByte := by
  intro s h hf hc
  rw [microStep_of_drain hc]
  refine ⟨fun hend hio => ?_, fun hend hio => ?_, microDrain_of_empty hf, fun v rest hne hrxf =>
    ⟨drainMem s [v], ?_, drainMem_of_no_buffer [v], fun r hr => ?_⟩⟩
  · rw [microDrain_of_end hend, drainEnd_of_all_sent hio]
  · rw [microDrain_of_end hend, drainEnd_of_more_to_send hio]
  · rw [microDrain_of_byte h hne hrxf, popped, drained, ← hc]
  · have hlt := h.rxOffset_lt_ioLen hne
    obtain ⟨-, hlen⟩ := h.rxHolds r hr
    have hread := h.memBytes_drainMem (bs := [v]) hr hlt
    refine ⟨?_, (List.cons.inj hread).1, fun a ha => ?_⟩
    · rw [handleHas, Bool.and_eq_true, decide_eq_true_eq, decide_eq_true_eq]
      omega
    · rw [drainMem_of_buffer [v] hr]
      exact memRead_storeBytes_outside (by simpa using ha)

/-! ## Runs of the Sequencer -/

theorem microSteps_succ {n : Nat} {s t : State} (h : microStep s = .next t) :
    microSteps (n + 1) s = microSteps n t := by
  rw [microSteps, h]

theorem microSteps_succ_eq_next {n : Nat} {s t : State} :
    microSteps (n + 1) s = .next t ↔ ∃ u, microStep s = .next u ∧ microSteps n u = .next t := by
  rw [microSteps]
  cases microStep s <;> simp

theorem microSteps_one {s t : State} (h : microStep s = .next t) : microSteps 1 s = .next t :=
  microSteps_succ h

/-- Two runs, one after the other. -/
theorem microSteps_add {m n : Nat} {s t : State} (h : microSteps m s = .next t) :
    microSteps (m + n) s = microSteps n t := by
  induction m generalizing s with
  | zero => cases h; rw [Nat.zero_add]
  | succ m ih =>
    obtain ⟨u, hu, hut⟩ := microSteps_succ_eq_next.1 h
    rw [Nat.add_right_comm, microSteps_succ hu, ih hut]

/-- No micro-step leaves the hard fault state (R226). -/
theorem MicroEffect.no_fault_before {s t : State} (he : MicroEffect s t) (hf : t.fault = none) : s.fault = none := by
  cases he with
  | drainFault | refillFault | completionNoBuffer | completionNoClient => simp at hf
  | _ => simpa [refillEnd] using hf

theorem no_fault_before_microSteps {n : Nat} {s t : State} (h : microSteps n s = .next t) (hf : t.fault = none) :
    s.fault = none := by
  induction n generalizing s with
  | zero => cases h; exact hf
  | succ n ih =>
    obtain ⟨u, hu, hut⟩ := microSteps_succ_eq_next.1 h
    exact (microStep_effect hu).no_fault_before (ih hut)

/-- A run without a hard fault keeps the invariant. -/
theorem Inv.microSteps {n : Nat} {s t : State} (h : Inv s) (hm : microSteps n s = .next t) (hf : t.fault = none) :
    Inv t := by
  induction n generalizing s with
  | zero => cases hm; exact h
  | succ n ih =>
    have hs := no_fault_before_microSteps hm hf
    obtain ⟨u, hu, hut⟩ := microSteps_succ_eq_next.1 hm
    exact ih (h.micro hs (microStep_effect hu)) hut

/-! ## The whole drain -/

/-- `s` with the first `k` bytes of RXF drained and `rx_offset` at `tx_offset` (R182, R183). -/
def drainedBy (k : Nat) (s : State) : State :=
  { s with
    xfer.rxOffset := s.xfer.txOffset
    link.rxf := s.link.rxf.drop k
    mem := drainMem s (s.link.rxf.take k) }

theorem drainedBy_zero {s : State} (h : s.xfer.rxOffset = s.xfer.txOffset) : drainedBy 0 s = s := by
  rw [drainedBy, ← h, List.take_zero, drainMem_nil, List.drop_zero]

theorem popped_rxOffset_toNat {s : State} (v : Byte) (rest : List Byte) (h : Inv s)
    (hne : s.xfer.rxOffset ≠ s.xfer.txOffset) :
    (popped v rest s).xfer.rxOffset.toNat = s.xfer.rxOffset.toNat + 1 :=
  drained_rxOffset_toNat (rest := rest) h hne

/-- The bytes stored after the first follow it (R183). -/
theorem drainMem_popped {s : State} {v : Byte} {rest : List Byte} (bs : List Byte) (h : Inv s)
    (hne : s.xfer.rxOffset ≠ s.xfer.txOffset) : drainMem (popped v rest s) bs = drainMem s (v :: bs) := by
  have hcell : (popped v rest s).xfer.rxc = s.xfer.rxc := rfl
  have hmem : (popped v rest s).mem = drainMem s [v] := rfl
  cases hr : s.xfer.rxc with
  | none => rw [drainMem_of_no_buffer bs (hcell.trans hr), hmem, drainMem_of_no_buffer _ hr, drainMem_of_no_buffer _ hr]
  | some r =>
    rw [drainMem_of_buffer bs (hcell.trans hr), hmem, popped_rxOffset_toNat v rest h hne,
      drainMem_of_buffer _ hr, drainMem_of_buffer _ hr]
    rfl

/-- Draining one byte and then the rest drains them all, in order. -/
theorem drainedBy_popped {s : State} {v : Byte} {rest : List Byte} (k : Nat) (h : Inv s) (hc : s.cur = .sRxl)
    (hne : s.xfer.rxOffset ≠ s.xfer.txOffset) (hrxf : s.link.rxf = v :: rest) :
    drainedBy k (popped v rest s) = drainedBy (k + 1) s := by
  rw [drainedBy, drainedBy, hrxf, List.take_succ_cons, List.drop_succ_cons, ← drainMem_popped (rest := rest) _ h hne, hc]
  rfl

/-- The drain loop pops the bytes up to `tx_offset`, one for each micro-step (R182, R183). -/
theorem microSteps_drain {k : Nat} {s : State} (h : Inv s) (hf : s.fault = none) (hc : s.cur = .sRxl)
    (hk : s.xfer.rxOffset.toNat + k = s.xfer.txOffset.toNat) (hlen : k ≤ s.link.rxf.length) :
    microSteps k s = .next (drainedBy k s) := by
  induction k generalizing s with
  | zero => rw [drainedBy_zero (BitVec.eq_of_toNat_eq hk)]; rfl
  | succ k ih =>
    have hne : s.xfer.rxOffset ≠ s.xfer.txOffset := fun heq => by rw [heq] at hk; omega
    obtain ⟨v, rest, hrxf⟩ := List.exists_cons_of_length_pos (Nat.zero_lt_of_lt hlen)
    have hpop := (microStep_of_drain hc).trans (microDrain_of_byte h hne hrxf)
    rw [hrxf, List.length_cons] at hlen
    rw [microSteps_succ hpop, ← drainedBy_popped k h hc hne hrxf]
    refine ih (h.micro hf (microStep_effect hpop)) hf rfl ?_ (Nat.le_of_succ_le_succ hlen)
    rw [popped_rxOffset_toNat v rest h hne, Nat.add_assoc, Nat.add_comm 1 k]
    exact hk

/-- Settles O35: the drain loop's memory is the bytes popped, stored in order from `rx_offset` on. -/
theorem wholeDrainMovesTheOutstandingBytes : Obligations.WholeDrainMovesTheOutstandingBytes := by
  intro s h hf hc hlen
  have hrx := h.rxLeTx
  have htx := h.txLeIo
  generalize hk : s.xfer.txOffset.toNat - s.xfer.rxOffset.toNat = k at hlen ⊢
  have htaken : (s.link.rxf.take k).length = k := List.length_take_of_le hlen
  refine ⟨drainMem s (s.link.rxf.take k), microSteps_drain h hf hc (by omega) hlen, drainMem_of_no_buffer _,
    fun r hr => ⟨?_, fun a ha => ?_⟩⟩
  · have hread := h.memBytes_drainMem (bs := s.link.rxf.take k) hr (by omega)
    rwa [htaken] at hread
  · rw [drainMem_of_buffer _ hr]
    exact memRead_storeBytes_outside (by omega)

/-! ## The refill -/

section
variable {s : State} {i before stop : Word}

theorem microStep_of_refill (hc : s.cur = .sTxl i before stop) : microStep s = microRefill i before stop s := by
  rw [microStep, hc]

theorem microRefill_of_full (hf : s.fault = none) (hlt : i.toNat < stop.toNat) (hfull : s.link.txf.length = 8) :
    microRefill i before stop s = .next { s with fault := some .txFifoFull } := by
  rw [microRefill, if_pos hlt, if_pos ((txFull_iff s).2 hfull), raiseHardFault_of_none _ hf]

theorem microRefill_of_no_buffer (hf : s.fault = none) (hlt : i.toNat < stop.toNat) (hroom : s.link.txf.length ≠ 8)
    (hw : s.xfer.txc = none) : microRefill i before stop s = .next { s with fault := some .noTxBuffer } := by
  rw [microRefill, if_pos hlt, if_neg ((txFull_iff s).not.2 hroom), hw, raiseHardFault_of_none _ hf]

/-- A push of the byte at `txc.base + i` (R186). -/
theorem microRefill_of_byte {w : Handle} (hlt : i.toNat < stop.toNat) (hroom : s.link.txf.length ≠ 8)
    (hw : s.xfer.txc = some w) (hwf : handleWf w = true) (hlen : stop.toNat ≤ w.len.toNat) :
    microRefill i before stop s =
      .next { pushTx (memRead s.mem (w.base.toNat + i.toNat)) s with cur := .sTxl (i + 1) before stop } := by
  rw [handleWf_iff] at hwf
  have haddr : w.base.toNat + i.toNat < Config.bufSize := by
    unfold Config.bufSize
    omega
  rw [microRefill, if_pos hlt, if_neg ((txFull_iff s).not.2 hroom), hw]
  exact atAddress_of_lt _ haddr

theorem microRefill_of_end : microRefill stop before stop s = .next (refillEnd before stop s) := by
  rw [microRefill, if_neg (lt_irrefl _), if_pos rfl]

end

/-- Settles O33: the branches of `microRefill`. -/
theorem refillMicroStepPushesOneByte : Obligations.RefillMicroStepPushesOneByte := by
  intro s i before stop hf hc
  rw [microStep_of_refill hc]
  refine ⟨microRefill_of_full hf, microRefill_of_no_buffer hf, fun w => microRefill_of_byte, ?_⟩
  rintro rfl -
  exact microRefill_of_end

/-- Below its end the loop of a run finds room: TXF was empty when it began, and a burst is less than `C` (R186, R228). -/
theorem Inv.refill_has_room {s : State} {i before stop : Word} (h : Inv s) (hc : s.cur = .sTxl i before stop)
    (hlt : i.toNat < stop.toNat) : s.link.txf.length ≠ 8 := by
  have hagree := h.cur
  simp only [curAgrees, hc, Config.burst] at hagree
  omega

/-- The end of the loop of a run is inside the write handle (R186). -/
theorem Inv.refill_in_handle {s : State} {i before stop : Word} {w : Handle} (h : Inv s)
    (hc : s.cur = .sTxl i before stop) (hw : s.xfer.txc = some w) :
    handleWf w = true ∧ stop.toNat ≤ w.len.toNat := by
  have hagree := h.cur
  simp only [curAgrees, hc] at hagree
  obtain ⟨-, -, -, -, -, hstop, -⟩ := hagree
  obtain ⟨hwf, hlen⟩ := h.txHolds w hw
  exact ⟨hwf, hstop.trans hlen⟩

/-- `s` with the `k` bytes of BUF from address `a` on at the end of TXF. -/
def pushedFrom (a k : Nat) (s : State) : State := { s with link.txf := s.link.txf ++ memBytes s.mem a k }

/-- The refill loop pushes the bytes up to its end, one for each micro-step, and leaves (R186). -/
theorem microSteps_refill {k : Nat} {s : State} {i before stop : Word} {w : Handle} (h : Inv s)
    (hf : s.fault = none) (hc : s.cur = .sTxl i before stop) (hw : s.xfer.txc = some w)
    (hk : i.toNat + k = stop.toNat) :
    microSteps (k + 1) s = .next (refillEnd before stop (pushedFrom (w.base.toNat + i.toNat) k s)) := by
  induction k generalizing s i with
  | zero =>
    obtain rfl : i = stop := BitVec.eq_of_toNat_eq hk
    rw [microSteps_one ((microStep_of_refill hc).trans microRefill_of_end)]
    simp [pushedFrom, memBytes]
  | succ k ih =>
    have hlt : i.toNat < stop.toNat := by omega
    obtain ⟨hwf, hlen⟩ := h.refill_in_handle hc hw
    have hpush := (microStep_of_refill hc).trans
      (microRefill_of_byte hlt (h.refill_has_room hc hlt) hw hwf hlen)
    have hsucc : (i + 1).toNat = i.toNat + 1 := by bv_omega
    rw [microSteps_succ hpush, ih (h.micro hf (microStep_effect hpush)) hf rfl hw (by omega), hsucc]
    simp [pushedFrom, refillEnd, pushTx, memBytes, Nat.add_assoc]

/-- Settles O36: the refill loop with `end - i` bytes to push. -/
theorem wholeRefillPushesTheBurst : Obligations.WholeRefillPushesTheBurst := by
  intro s i before stop w h hf hc hw
  have hagree := h.cur
  simp only [curAgrees, hc] at hagree
  obtain ⟨-, -, hle, -⟩ := hagree
  exact microSteps_refill h hf hc hw (by omega)

/-! ## The completion check -/

section
variable {s : State}

theorem transferComplete_iff (s : State) :
    transferComplete s = true ↔ s.xfer.txOffset = s.xfer.ioLen ∧ s.xfer.rxOffset = s.xfer.ioLen := by
  simp [transferComplete]

theorem microStep_finish_of_incomplete (hc : s.cur = .sFin)
    (h : ¬ (s.xfer.txOffset = s.xfer.ioLen ∧ s.xfer.rxOffset = s.xfer.ioLen)) :
    microStep s = .next (answered .ok 0 { s with cur := .none }) := by
  rw [microStep, hc, microFinish, if_neg ((transferComplete_iff s).not.2 h)]
  rfl

theorem microStep_finish_of_complete (hc : s.cur = .sFin) (htx : s.xfer.txOffset = s.xfer.ioLen)
    (hrx : s.xfer.rxOffset = s.xfer.ioLen) : microStep s = completeTransfer s := by
  rw [microStep, hc, microFinish, if_pos ((transferComplete_iff s).2 ⟨htx, hrx⟩)]

/-- The completion's pulse leaves HOLD, the line as `csmode <- AUTO` does, and both sources disarmed (R188, R211 (c)). -/
theorem completionStart_eq_releasedLine (s : State) :
    completionStart s =
      { withLine (releasedLine s).1 (releasedLine s).2 s with
        regs.csmode := .hold, regs.ieTx := false, regs.ieRx := false } := by
  rw [completionStart, writeCsAuto_eq_releasedLine]
  rfl

theorem completeTransfer_of_no_buffer (hf : s.fault = none) (hw : s.xfer.txc = none) :
    completeTransfer s = .next { completionStart s with fault := some .noTxBuffer } := by
  have hw' : (completionStart s).xfer.txc = none := by simpa using hw
  have hf' : (completionStart s).fault = none := by simpa using hf
  simp only [completeTransfer, hw', raiseHardFault_of_none _ hf']

theorem completeTransfer_of_no_client (hf : s.fault = none) (hw : s.xfer.txc ≠ none) (hid : s.client = none) :
    completeTransfer s = .next { takeCells (completionStart s) with fault := some .noClient } := by
  obtain ⟨w, hw⟩ := Option.ne_none_iff_exists'.1 hw
  have hw' : (completionStart s).xfer.txc = some w := by simpa using hw
  have hid' : (takeCells (completionStart s)).client = none := by simpa using hid
  have hf' : (takeCells (completionStart s)).fault = none := by simpa using hf
  simp only [completeTransfer, hw', hid', raiseHardFault_of_none _ hf']

/-- The completion of a transfer with a client (R188, R107). -/
theorem completeTransfer_of_client {w : Handle} {id : Word} (hw : s.xfer.txc = some w) (hid : s.client = some id) :
    completeTransfer s = .next (answered .ok 0
      { completionStart s with
        xfer := Transfer.reset
        ports.completions := s.ports.completions ++
          [{ client := id, w := w, r := s.xfer.rxc, len := s.xfer.ioLen, status := .success }]
        cur := .none }) := by
  have hw' : (completionStart s).xfer.txc = some w := by simpa using hw
  have hid' : (takeCells (completionStart s)).client = some id := by simpa using hid
  simp only [completeTransfer, hw', hid']
  simp [respond, answered, zeroCounters, emitDone, takeCells, Transfer.reset]

end

/-- Settles O34: the check, and the completion by what it finds in the cell and in the client. -/
theorem completionCheckCompletesOnce : Obligations.CompletionCheckCompletesOnce := by
  refine fun s hf hc => ⟨microStep_finish_of_incomplete hc, fun htx hrx => ?_⟩
  dsimp only
  rw [microStep_finish_of_complete hc htx hrx]
  refine ⟨fun hw => ?_, fun hw hid => ?_, fun w id hw hid => ?_⟩
  · rw [completeTransfer_of_no_buffer hf hw, completionStart_eq_releasedLine]
    rfl
  · rw [completeTransfer_of_no_client hf hw hid, completionStart_eq_releasedLine]
    rfl
  · rw [completeTransfer_of_client hw hid, completionStart_eq_releasedLine]
    rfl

/-! ## The passes -/

/-- With TXF and `sr` empty the whole burst waits in RXF (R214). -/
theorem Balanced.rxf_ends {s : State} (hb : Balanced s) (hf : s.fault = none) (hc : s.cur = .sRxt)
    (htxf : s.link.txf = []) (hsr : s.link.sr = none) :
    s.xfer.rxOffset.toNat + s.link.rxf.length = s.xfer.txOffset.toNat := by
  simpa [outstanding, loopPushed, waitPushed, hc, htxf, hsr] using hb hf

/-- `s` after the receive phase of a pass that drains all of RXF (R182 to R184). -/
def received (s : State) : State := drainEnd (drainedBy s.link.rxf.length s)

@[simp] theorem received_xfer (s : State) :
    (received s).xfer = { s.xfer with rxOffset := s.xfer.txOffset } := drainEnd_xfer _
@[simp] theorem received_client (s : State) : (received s).client = s.client := drainEnd_client _
@[simp] theorem received_fault (s : State) : (received s).fault = s.fault := drainEnd_fault _
@[simp] theorem received_cur (s : State) : (received s).cur = .sTxt := drainEnd_cur _
@[simp] theorem received_ports (s : State) : (received s).ports = s.ports := drainEnd_ports _

@[simp] theorem received_link (s : State) : (received s).link = { s.link with rxf := [] } := by
  simp [received, drainedBy]

@[simp] theorem received_mem (s : State) : (received s).mem = drainMem s s.link.rxf := by
  simp [received, drainedBy]

theorem received_regs_of_all_sent {s : State} (hio : s.xfer.txOffset = s.xfer.ioLen) :
    (received s).regs = s.regs := by
  rw [received, drainEnd_of_all_sent (s := drainedBy _ s) hio]
  rfl

theorem received_regs_of_more_to_send {s : State} (hio : s.xfer.txOffset ≠ s.xfer.ioLen) :
    (received s).regs = { s.regs with ieTx := true, ieRx := false } := by
  rw [received, drainEnd_of_more_to_send (s := drainedBy _ s) hio]
  rfl

/-- `s` after the transmit phase of a pass that sends the next burst of `w` (R186). -/
def transmitted (w : Handle) (s : State) : State :=
  refillEnd s.xfer.txOffset (burstEnd s.xfer.txOffset s.xfer.ioLen)
    (pushedFrom (w.base.toNat + s.xfer.txOffset.toNat)
      ((burstEnd s.xfer.txOffset s.xfer.ioLen).toNat - s.xfer.txOffset.toNat) s)

@[simp] theorem transmitted_xfer (w : Handle) (s : State) :
    (transmitted w s).xfer = { s.xfer with txOffset := burstEnd s.xfer.txOffset s.xfer.ioLen } := rfl
@[simp] theorem transmitted_fault (w : Handle) (s : State) : (transmitted w s).fault = s.fault := rfl
@[simp] theorem transmitted_ports (w : Handle) (s : State) : (transmitted w s).ports = s.ports := rfl

@[simp] theorem transmitted_link (w : Handle) (s : State) :
    (transmitted w s).link = { s.link with
      txf := s.link.txf ++ memBytes s.mem (w.base.toNat + s.xfer.txOffset.toNat)
        ((burstEnd s.xfer.txOffset s.xfer.ioLen).toNat - s.xfer.txOffset.toNat) } := rfl

@[simp] theorem transmitted_regs (w : Handle) (s : State) :
    (transmitted w s).regs = { s.regs with
      rxmark := burstMark ((burstEnd s.xfer.txOffset s.xfer.ioLen).toNat - s.xfer.txOffset.toNat)
      ieTx := false
      ieRx := true } := rfl

section
variable {s : State} (h : Inv s) (hf : s.fault = none)
include h hf

/-- A pass issued with the flag set and the burst echoed drains it: the test, the loop, its end (R181 to R184). -/
theorem microSteps_receive (hc : s.cur = .sRxt) (hip : ipRx s = true)
    (hends : s.xfer.rxOffset.toNat + s.link.rxf.length = s.xfer.txOffset.toNat) :
    microSteps (s.link.rxf.length + 2) s = .next (received s) := by
  have htest := microStep_rxTest_of_pending hc hip
  have hdrain := microSteps_drain (h.micro hf (microStep_effect htest)) hf rfl hends le_rfl
  rw [microSteps_succ htest, microSteps_add hdrain,
    microSteps_one ((microStep_of_drain rfl).trans (microDrain_of_end rfl))]
  rfl

/-- With the flag set and more to send the transmit phase is the test, the loop and its end (R185, R186). -/
theorem microSteps_transmit {w : Handle} (hc : s.cur = .sTxt) (hip : ipTx s = true) (hw : s.xfer.txc = some w)
    (hmore : s.xfer.txOffset.toNat < (burstEnd s.xfer.txOffset s.xfer.ioLen).toNat) :
    microSteps ((burstEnd s.xfer.txOffset s.xfer.ioLen).toNat - s.xfer.txOffset.toNat + 2) s =
      .next (transmitted w s) := by
  have hne : burstEnd s.xfer.txOffset s.xfer.ioLen ≠ s.xfer.txOffset := ne_of_apply_ne BitVec.toNat hmore.ne'
  have htest := (microStep_of_txTest hc).trans (microTxTest_of_pending hip hne)
  rw [microSteps_succ htest, microSteps_refill (h.refillStart hc hip hne) hf rfl hw (by omega)]
  rfl

end

/-- The threshold of a burst fits its 3 bits (R31, R186). -/
theorem burstMark_toNat {burst : Nat} (h : burst ≤ 7) : (burstMark burst).toNat = burst - 1 := by
  rw [burstMark, BitVec.toNat_ofNat, Nat.mod_eq_of_lt (by omega)]

theorem Inv.busy_of_buffer {s : State} {w : Handle} (h : Inv s) (hw : s.xfer.txc = some w) : s.xfer.busy = true := by
  by_contra hb
  exact nomatch hw.symm.trans (h.no_buffer_of_idle (by simpa using hb))

/-- Settles O37: the receive phase, the transmit phase it arms, and the check of an incomplete transfer. -/
theorem safePassDrainsABurstAndSendsTheNext : Obligations.SafePassDrainsABurstAndSendsTheNext := by
  intro s w h hb hf hc hip htxf hsr hw hmore
  have hends := hb.rxf_ends hf hc htxf hsr
  have hend := burstEnd_toNat s.xfer.txOffset s.xfer.ioLen
  have hne : s.xfer.txOffset ≠ s.xfer.ioLen := ne_of_apply_ne BitVec.toNat hmore.ne
  have hregs := received_regs_of_more_to_send hne
  have hreceive := microSteps_receive h hf hc hip hends
  have hinv : Inv (received s) := h.microSteps hreceive (by simpa using hf)
  have htransmit := microSteps_transmit (w := w) hinv (by simpa using hf) (received_cur s)
    ((ipTx_iff _).2 (by simp [hregs, htxf])) (by simpa using hw) (by simpa [hend] using hmore)
  have hfinish := microStep_finish_of_incomplete (s := transmitted w (received s)) rfl
    fun ⟨_, hrx⟩ => hne (by simpa using hrx)
  have hcount : min (s.xfer.txOffset.toNat + 7) s.xfer.ioLen.toNat - s.xfer.rxOffset.toNat + 5 =
      s.link.rxf.length + 2 +
        ((burstEnd s.xfer.txOffset s.xfer.ioLen).toNat - s.xfer.txOffset.toNat + 2 + 1) := by omega
  have hbytes := h.memBytes_drainMem_write_buffer (bs := s.link.rxf) (off := s.xfer.txOffset.toNat)
    (n := (burstEnd s.xfer.txOffset s.xfer.ioLen).toNat - s.xfer.txOffset.toNat) hw (by omega) (by omega)
  have hmark := burstMark_toNat
    (burst := (burstEnd s.xfer.txOffset s.xfer.ioLen).toNat - s.xfer.txOffset.toNat) (by omega)
  simp only [received_xfer] at htransmit
  rw [hcount, microSteps_add hreceive, microSteps_add htransmit, microSteps_one hfinish]
  refine ⟨_, rfl, rfl, ?_⟩
  simp [answered, hregs, hend ▸ hbytes, hend ▸ hmark, hend, hf, htxf, h.busy_of_buffer hw]

/-- With no frame in flight the completion's pulse releases the line (R188, R211 (c)). -/
theorem completionStart_csActive_of_no_frame {s : State} (hsr : s.link.sr = none) :
    (completionStart s).link.csActive = false := by
  rw [completionStart_eq_releasedLine]
  cases hcs : s.link.csActive <;> simp [withLine, releasedLine, hsr, hcs]

/-- Settles O38: the receive phase, the transmit test with its source disarmed, and the completion. -/
theorem safeLastPassCompletes : Obligations.SafeLastPassCompletes := by
  intro s w id h hb hf hc hip htxf hsr hw hid hio
  have hends := hb.rxf_ends hf hc htxf hsr
  have hreceive := microSteps_receive h hf hc hip hends
  have hclear : ¬ ipTx (received s) = true := by
    rw [ipTx_iff, received_regs_of_all_sent hio]
    rintro ⟨harmed, -⟩
    have := h.armed harmed
    rw [hio] at this
    omega
  have htest := (microStep_of_txTest (received_cur s)).trans (microTxTest_of_clear hclear)
  have hfinish := (microStep_finish_of_complete (s := { received s with cur := .sFin }) rfl (by simpa using hio)
    (by simpa using hio)).trans (completeTransfer_of_client (by simpa using hw) (by simpa using hid))
  have hcount : s.xfer.txOffset.toNat - s.xfer.rxOffset.toNat + 4 = s.link.rxf.length + 2 + (1 + 1) := by omega
  rw [hcount, microSteps_add hreceive, microSteps_succ htest, microSteps_one hfinish]
  refine ⟨_, rfl, rfl, ?_⟩
  simp [answered, hf, htxf, hsr, completionStart_csActive_of_no_frame]

/-- Settles O39: an idle block has both flags clear and all counters 0, so the pass comes to the completion, which finds no
write buffer. -/
theorem spuriousIdlePassFaults : Obligations.SpuriousIdlePassFaults := by
  intro s h hi hf hb hc
  obtain ⟨hrx, htx, hio⟩ := h.idle_counters hb
  obtain ⟨hieTx, hieRx⟩ := h.idle_disarmed hb
  have hrxTest := microStep_rxTest_of_clear (s := { s with cur := .sRxt }) rfl (by simp [ipRx_iff, hieRx])
  have htxTest := (microStep_of_txTest (s := { s with cur := .sTxt }) rfl).trans
    (microTxTest_of_clear (by simp [ipTx_iff, hieTx]))
  have hfinish := (microStep_finish_of_complete (s := { s with cur := .sFin }) rfl
    (BitVec.eq_of_toNat_eq (htx.trans hio.symm)) (BitVec.eq_of_toNat_eq (hrx.trans hio.symm))).trans
    (completeTransfer_of_no_buffer hf (h.no_buffer_of_idle hb))
  refine ⟨_, _, exec_service hi, ((microSteps_succ hrxTest).trans (microSteps_succ htxTest)).trans
    (microSteps_one hfinish), rfl, ?_⟩
  simp

end Sys2Proof.Machine

/-! PROOF. GPIOINIT of `44_gpio.md` (R200): it has neither the INIT test nor the `busy` test, so it answers in one way. -/

namespace Sys2Proof.Machine

/-- GPIOINIT has no prologue test: in every state it switches the four pins and answers OK (R200). -/
theorem exec_gpioinit (s : State) : exec .gpioinit s = .next (answered .ok 0 { s with pinfn := 0b1111 }) := rfl

/-- Settles O24: the header is GPIOINIT's, which takes no operand, and the answer is the one of every state. -/
theorem gpioinitSwitchesTheFourPins : Obligations.GpioinitSwitchesTheFourPins :=
  ⟨fun _ hw => decodeCmd_of_w0 .gpioinit hw, exec_gpioinit⟩

end Sys2Proof.Machine

/-! PROOF. The FIFOs and the Shifter (`45_fifo_shifter.md`): the full-duplex accounting and the pace of the safe schedule (R214,
R190), the two Shifter steps (R209, R210), and the chip-select line (R211). -/

namespace Sys2Proof.Machine

/-! ## What a step does, by its agent -/

/-- Everything a step but reset does, by the agent that takes it (R12). Where `StepEffect` has the effect of a meaning, this has the
meaning itself, so that a proof can ask which of its branches was taken. -/
inductive AgentStep (s : State) : State → Prop
  | micro {u : State} (rest : List Move) (h : microStep { s with env := rest } = .next u) : AgentStep s u
  | command {u : State} {i : Instr} (rest : List Move) (hi : issuesNext i s)
      (h : exec i { s with env := rest } = .next u) : AgentStep s u
  | unknownCommand (rest : List Move) : AgentStep s (respond .illegal 0 { s with env := rest })
  | frameStart (rest : List Move) (henv : s.env = .s1 :: rest) : AgentStep s (shiftOut { s with env := rest })
  | frameEnd (p : Byte) (rest : List Move) (henv : s.env = .s2 p :: rest) :
      AgentStep s (shiftIn p { s with env := rest })
  /-- A load leaves BUF as it is. -/
  | host (rest : List Move) (m : Memory) : AgentStep s { s with env := rest, mem := m }

theorem issueCmd_agent {s u : State} {c : CmdWord} {rest : List Move} (hf : s.fault = none) (hc : s.cur = .none)
    (henv : s.env = .issue c :: rest) (h : issueCmd c { s with env := rest } = .next u) : AgentStep s u := by
  cases hd : decode c with
  | ok i => exact .command rest ⟨hf, hc, c, rest, henv, hd⟩ (issueCmd_of_ok _ hd ▸ h)
  | illegal why =>
    rw [issueCmd_of_illegal _ hd] at h
    cases h
    exact .unknownCommand rest

/-- A step that is not reset: no hard fault before it, one agent's step, and the step counted. -/
theorem step_agent {s t : State} (h : step s = .next t) (hr : ¬ resetNext s) :
    s.fault = none ∧ ∃ u, t = countStep u ∧ AgentStep s u := by
  have hf := no_fault_of_step h hr
  obtain ⟨u, hu, ht⟩ := onNext_eq_next.1 (step_of_no_fault hf ▸ h)
  refine ⟨hf, u, ht, ?_⟩
  rcases takeMove_cases s with hm | ⟨rest, -, hm⟩ | ⟨c, rest, henv, hc, hm⟩ | ⟨rest, henv, hm⟩ |
    ⟨p, rest, henv, hm⟩ | ⟨rest, henv, -⟩ | ⟨a, rest, -, -, hm⟩ | ⟨a, v, rest, -, -, hm⟩ <;> try rw [hm] at hu
  · exact .micro s.env hu
  · exact .micro rest hu
  · exact issueCmd_agent hf hc henv hu
  · cases hu
    exact .frameStart rest henv
  · cases hu
    exact .frameEnd p rest henv
  · exact absurd ⟨rest, henv⟩ hr
  · exact hostLoad_eq_next hu ▸ .host rest s.mem
  · exact hostStore_eq_next hu ▸ .host rest _

/-! ## The accounting -/

/-- The bytes drained and the bytes between the two data ports. -/
def returned (s : State) : Nat := s.xfer.rxOffset.toNat + (inFlight s).length

/-- The bytes sent: those `tx_offset` counts, those of a refill loop, that of a waiting byte operation. -/
def sent (s : State) : Nat := s.xfer.txOffset.toNat + loopPushed s + waitPushed s

theorem balanced_iff (s : State) : Balanced s ↔ (s.fault = none → returned s = sent s) := by
  rw [returned, inFlight_length]
  rfl

theorem Balanced.of_hardFault (f : HardFault) (s : State) : Balanced (raiseHardFault f s) :=
  fun hf => by simp at hf

/-- What counts as many bytes on both sides as before keeps the accounting. -/
theorem Balanced.of_counts_eq {s t : State} (hb : Balanced s) (hf : s.fault = none) (hr : returned t = returned s)
    (hs : sent t = sent s) : Balanced t :=
  (balanced_iff t).2 fun _ => hr.trans (((balanced_iff s).1 hb hf).trans hs.symm)

/-- A byte more on both sides keeps the accounting. -/
theorem Balanced.of_counts_succ {s t : State} (hb : Balanced s) (hf : s.fault = none)
    (hr : returned t = returned s + 1) (hs : sent t = sent s + 1) : Balanced t :=
  (balanced_iff t).2 fun _ => hr.trans ((congrArg (· + 1) ((balanced_iff s).1 hb hf)).trans hs.symm)

/-- A byte less on both sides keeps the accounting. -/
theorem Balanced.of_counts_pred {s t : State} (hb : Balanced s) (hf : s.fault = none)
    (hr : returned s = returned t + 1) (hs : sent s = sent t + 1) : Balanced t :=
  (balanced_iff t).2 fun _ => Nat.succ_injective (hr.symm.trans (((balanced_iff s).1 hb hf).trans hs))

theorem returned_congr {s t : State} (hx : t.xfer.rxOffset = s.xfer.rxOffset)
    (hlen : (inFlight t).length = (inFlight s).length) : returned t = returned s := by
  rw [returned, hx, hlen, returned]

theorem sent_congr {s t : State} (hx : t.xfer.txOffset = s.xfer.txOffset) (hc : t.cur = s.cur) : sent t = sent s := by
  simp only [sent, loopPushed, waitPushed, hx, hc]

/-- With no byte pushed beyond `tx_offset`, the accounting is R214 itself. -/
theorem Balanced.outstanding_ends {s : State} (hb : Balanced s) (hf : s.fault = none) (hl : loopPushed s = 0)
    (hw : waitPushed s = 0) : s.xfer.rxOffset.toNat + (inFlight s).length = s.xfer.txOffset.toNat := by
  simpa [returned, sent, hl, hw] using (balanced_iff s).1 hb hf

/-! ### The micro-steps -/

/-- A pop of the drain moves a byte from RXF to `rx_offset` (R182, R183). -/
theorem returned_drained {s : State} {v : Byte} {rest : List Byte} (h : Inv s)
    (hne : s.xfer.rxOffset ≠ s.xfer.txOffset) (hrxf : s.link.rxf = v :: rest) :
    returned (drained rest s) = returned s := by
  rw [returned, drained_rxOffset_toNat h hne, returned, inFlight_eq_cons hrxf, List.length_cons]
  omega

theorem returned_pushTx (v : Byte) (s : State) : returned (pushTx v s) = returned s + 1 := by
  simp [returned, inFlight_pushTx, Nat.add_assoc]

/-- The counter of the refill loop goes up with each push (R186). -/
theorem sent_refillPush {s : State} {i before stop : Word} (v : Byte) (h : Inv s) (hc : s.cur = .sTxl i before stop)
    (hlt : i.toNat < stop.toNat) : sent { pushTx v s with cur := .sTxl (i + 1) before stop } = sent s + 1 := by
  have hagree := h.cur
  simp only [curAgrees, hc] at hagree
  obtain ⟨-, hle, -⟩ := hagree
  have hsucc : (i + 1).toNat = i.toNat + 1 := by bv_omega
  simp only [sent, loopPushed, waitPushed, hc, hsucc, pushTx_xfer]
  omega

/-- At the exit of the refill loop `tx_offset` takes over what the loop has counted (R186). -/
theorem sent_refillEnd {s : State} {before stop : Word} (h : Inv s) (hc : s.cur = .sTxl stop before stop) :
    sent (refillEnd before stop s) = sent s := by
  have hagree := h.cur
  simp only [curAgrees, hc] at hagree
  obtain ⟨hbefore, hle, -⟩ := hagree
  simp only [sent, loopPushed, waitPushed, hc, hbefore, refillEnd]
  omega

/-- At the completion everything sent has been drained (R187, R214). -/
theorem inFlight_eq_nil_of_completes {s t : State} (h : Inv s) (hb : Balanced s) (hf : s.fault = none)
    (hm : microStep s = .next t) (hd : Completes s t) : inFlight s = [] := by
  have ⟨hc, _⟩ := hd
  obtain ⟨hwhole, -⟩ := microStep_completes hm hd
  have hends := hb.outstanding_ends hf (by rw [loopPushed, hc]) (by rw [waitPushed, hc])
  have htx := h.txLeIo
  rw [hwhole] at hends
  exact List.length_eq_zero_iff.1 (by omega)

theorem microStep_keeps_accounting {s t : State} (h : Inv s) (hb : Balanced s) (hf : s.fault = none)
    (hm : microStep s = .next t) : Balanced t := by
  cases microStep_effect hm with
  | nothing => exact hb
  | drainFault | refillFault | completionNoBuffer | completionNoClient => exact .of_hardFault _ _
  | rxTested hc =>
    refine hb.of_counts_eq hf rfl ?_
    cases hip : ipRx s <;> simp [sent, loopPushed, waitPushed, hc]
  | drainEnded hc | txFlagClear hc | refillStarted hc | passEnded hc =>
    exact hb.of_counts_eq hf (by simp [returned, inFlight]) (by simp [sent, loopPushed, waitPushed, hc])
  | byteDropped hc hne hrxf =>
    exact hb.of_counts_eq hf (returned_drained h hne hrxf) (by simp [sent, loopPushed, waitPushed, hc])
  | byteStored hc hne hrxf =>
    exact hb.of_counts_eq hf (returned_drained h hne hrxf) (by simp [sent, loopPushed, waitPushed, hc])
  | bytePushed v hc hlt => exact hb.of_counts_succ hf (returned_pushTx v s) (sent_refillPush v h hc hlt)
  | refillEnded hc => exact hb.of_counts_eq hf rfl (sent_refillEnd h hc)
  | completed hc hw hid =>
    have hnone := inFlight_eq_nil_of_completes h hb hf hm
      ⟨hc, rfl, _, _, hw, hid, by simp [zeroCounters, takeCells]⟩
    refine (balanced_iff _).2 fun _ => ?_
    simp only [inFlight] at hnone
    simp [returned, sent, loopPushed, waitPushed, inFlight, hnone]
  | waitEnded d hc hrxf =>
    refine hb.of_counts_pred hf ?_ (by simp [sent, loopPushed, waitPushed, hc])
    simp only [returned, inFlight, hrxf, respond_xfer, respond_link, List.length_append, List.length_cons]
    omega

/-! ### The operations -/

/-- A SUBMIT on an empty TXF is answered and changes nothing, or is a hard fault, or it primes TXF with the whole first burst, which
is not empty, and arms the transfer (R170). -/
theorem execSubmit_cases {s t : State} {n : Word} {w : Handle} {r : Option Handle}
    (htxf : s.xfer.busy = false → s.link.txf = []) (hm : execSubmit n w r s = .next t) :
    (∃ st, t = respond st 0 s) ∨ (∃ f u, t = raiseHardFault f u) ∨
      (s.xfer.busy = false ∧ firstBurst (ioLength n w r) ≠ 0 ∧ t = respond .ok 0 (armTransfer w r (firstBurst (ioLength n w r))
        (primed (ioLength n w r) (memBytes s.mem w.base.toNat (firstBurst (ioLength n w r))) s))) := by
  have hanswer (st : Status) (h : Host.Outcome.next (respond st 0 s) = (.next t : Result)) :
      ∃ st, t = respond st 0 s := ⟨st, (Host.Outcome.next.inj h).symm⟩
  rcases whenInited_cases s _ with ⟨-, hw⟩ | ⟨-, hw⟩ <;> rw [execSubmit, hw] at hm
  · split at hm
    · split at hm
      · exact .inl (hanswer _ hm)
      · rcases whenIdle_cases s (acceptSubmit n w r s) with ⟨hidle, hw⟩ | ⟨-, hw⟩ <;> rw [hw] at hm
        · by_cases hcnt : firstBurst (ioLength n w r) = 0
          · simp only [acceptSubmit, hcnt, if_true] at hm
            exact .inr (.inl ⟨_, _, (Host.Outcome.next.inj hm).symm⟩)
          · rw [acceptSubmit_of_empty_txf (htxf hidle) hcnt] at hm
            exact .inr (.inr ⟨hidle, hcnt, (Host.Outcome.next.inj hm).symm⟩)
        · exact .inl (hanswer _ hm)
    · exact .inl (hanswer _ hm)
  · exact .inl (hanswer _ hm)

section
variable {s : State} (h : Inv s) (hb : Balanced s) (hf : s.fault = none) (hc : s.cur = .none)
include h hb hf hc

/-- With no operation in progress the FIFOs of an idle block are clean (R214). -/
theorem Balanced.clean_of_idle (hidle : s.xfer.busy = false) :
    s.link.rxf = [] ∧ s.link.sr = none ∧ s.link.txf = [] := by
  have hnil := inFlight_eq_nil h hb hf hc hidle
  simp only [inFlight, List.append_eq_nil_iff, Option.toList_eq_nil_iff] at hnil
  obtain ⟨⟨hrxf, hsr⟩, htxf⟩ := hnil
  exact ⟨hrxf, hsr, htxf⟩

theorem Balanced.txf_empty_of_idle (hidle : s.xfer.busy = false) : s.link.txf = [] := by
  obtain ⟨-, -, htxf⟩ := hb.clean_of_idle h hf hc hidle
  exact htxf

/-- An accepted SUBMIT counts the first burst as sent, and has pushed it on clean FIFOs (R173, R174). -/
theorem execSubmit_keeps_accounting {t : State} {n : Word} {w : Handle} {r : Option Handle}
    (hm : execSubmit n w r s = .next t) : Balanced t := by
  rcases execSubmit_cases (hb.txf_empty_of_idle h hf hc) hm with ⟨st, rfl⟩ | ⟨f, u, rfl⟩ | ⟨hidle, -, rfl⟩
  · exact hb
  · exact .of_hardFault f u
  · obtain ⟨hrxf, hsr, -⟩ := hb.clean_of_idle h hf hc hidle
    refine (balanced_iff _).2 fun _ => ?_
    simp only [returned, sent, respond_xfer, armTransfer_txOffset_toNat]
    simp [loopPushed, waitPushed, inFlight, primed, hc, hrxf, hsr]

/-- Every operation but an INIT during a transfer keeps the accounting: SUBMIT starts it, a byte operation counts the byte it waits
for, and the others touch nothing it speaks of. -/
theorem exec_keeps_accounting {t : State} {i : Instr} (hinit : i = .init → s.xfer.busy = false)
    (hm : exec i s = .next t) : Balanced t := by
  cases exec_effect hm with
  | submitted | submitFault => exact execSubmit_keeps_accounting h hb hf hc hm
  | byteOverflow => exact .of_hardFault _ s
  | init =>
    obtain ⟨hrx, htx, -⟩ := h.idle_counters (hinit rfl)
    exact hb.of_counts_eq hf (by simp [returned, inFlight, hrx]) (by simp [sent, loopPushed, waitPushed, hc, htx])
  | bytePushed k v =>
    exact hb.of_counts_succ hf (returned_pushTx v s) (by simp [sent, loopPushed, waitPushed, hc])
  | service => exact hb.of_counts_eq hf rfl (by simp [sent, loopPushed, waitPushed, hc])
  | _ => exact hb.of_counts_eq hf (by simp [returned, inFlight]) (sent_congr (by simp) (by simp))

end

/-! ### The Shifter and the step -/

/-- `S1` moves the head of TXF to the frame in flight (R209). -/
theorem shiftOut_inFlight (s : State) : inFlight (shiftOut s) = inFlight s := by
  have h := shiftOut_echoPart s
  simp only [echoPart, Prod.mk.injEq] at h
  obtain ⟨-, -, -, -, hflight, -⟩ := h
  exact hflight

/-- `S2` moves one byte, or is a hard fault that moves none (R210). -/
theorem shiftIn_inFlight_length (p : Byte) (s : State) : (inFlight (shiftIn p s)).length = (inFlight s).length := by
  rcases shiftIn_cases p s with ⟨-, heq⟩ | ⟨-, -, heq⟩ | ⟨b, hsr, -, hrxf, hsr', -⟩
  · rw [heq]
  · simp [heq, inFlight]
  · simp [inFlight, hsr, hrxf, hsr']

theorem AgentStep.keeps_accounting {s t : State} (ha : AgentStep s t) (h : Inv s) (hb : Balanced s)
    (hf : s.fault = none) (hinit : ¬ initWhileBusy s) : Balanced t := by
  cases ha with
  | micro rest hm => exact microStep_keeps_accounting (h.withEnv rest) hb hf hm
  | command rest hi hm =>
    have ⟨_, hc, _⟩ := hi
    refine exec_keeps_accounting (h.withEnv rest) hb hf hc (fun hi' => ?_) hm
    by_contra hbusy
    exact hinit ⟨by simpa using hbusy, hi' ▸ hi⟩
  | unknownCommand | host => exact hb
  | frameStart rest =>
    exact Balanced.of_counts_eq hb hf
      (returned_congr (by simp) (congrArg List.length (shiftOut_inFlight { s with env := rest })))
      (sent_congr (by simp) (by simp))
  | frameEnd p rest =>
    exact Balanced.of_counts_eq hb hf (returned_congr (by simp) (shiftIn_inFlight_length p { s with env := rest }))
      (sent_congr (by simp) (by simp))

/-! ## The pace of the safe schedule -/

theorem Paced.of_hardFault (f : HardFault) (s : State) : Paced (raiseHardFault f s) :=
  fun hf => by simp at hf

/-- The pace is about a transfer in flight. -/
theorem Paced.of_idle {s : State} (hb : s.xfer.busy = false) : Paced s :=
  fun _ hb' => nomatch hb.symm.trans hb'

/-- Between passes the pace is the threshold of the burst in flight. -/
theorem Paced.of_marked {s : State} (hc : s.cur = .none) (hm : s.xfer.busy = true → burstMarked s) : Paced s := by
  intro _ hb
  simpa only [hc] using hm hb

/-- Where a pass starts the burst in flight is marked (R190). -/
theorem Paced.marked {s : State} (hp : Paced s) (hf : s.fault = none) (hb : s.xfer.busy = true)
    (hc : s.cur = .none ∨ s.cur = .sRxt) : burstMarked s := by
  have hs := hp hf hb
  rcases hc with hc | hc <;> simp only [hc] at hs
  · exact hs
  · exact hs.1

/-- Bytes in flight that are no more than RXF holds are all in RXF. -/
theorem inFlight_all_in_rxf {s : State} (hle : (inFlight s).length ≤ s.link.rxf.length) :
    (inFlight s).length = s.link.rxf.length ∧ s.link.txf = [] ∧ s.link.sr = none := by
  simp only [inFlight, List.length_append] at hle ⊢
  refine ⟨by omega, List.length_eq_zero_iff.1 (by omega), Option.toList_eq_nil_iff.1 ?_⟩
  exact List.length_eq_zero_iff.1 (by omega)

/-- R190 (1): with the receive flag set, the burst in flight has come back whole. -/
theorem Balanced.burst_returned {s : State} (hb : Balanced s) (hf : s.fault = none)
    (hc : s.cur = .none ∨ s.cur = .sRxt) (hm : burstMarked s) (hip : ipRx s = true) :
    s.link.rxf.length = s.xfer.txOffset.toNat - s.xfer.rxOffset.toNat ∧ s.link.txf = [] ∧ s.link.sr = none := by
  have hends := hb.outstanding_ends hf (by rcases hc with hc | hc <;> rw [loopPushed, hc])
    (by rcases hc with hc | hc <;> rw [waitPushed, hc])
  obtain ⟨-, hmark⟩ := hm
  obtain ⟨-, hlevel⟩ := (ipRx_iff s).1 hip
  obtain ⟨hlen, hquiet⟩ := inFlight_all_in_rxf (s := s) (by omega)
  exact ⟨by omega, hquiet⟩

/-! ### The micro-steps -/

/-- No micro-step starts a transfer. -/
theorem MicroEffect.busy_before {s t : State} (he : MicroEffect s t) (hb : t.xfer.busy = true) :
    s.xfer.busy = true := by
  cases he with
  | completed => exact nomatch hb
  | refillEnded => exact hb
  | _ => simpa using hb

/-- The completion ends the transfer or is a hard fault (R188). -/
theorem completeTransfer_ends {s t : State} (hf : s.fault = none) (hm : completeTransfer s = .next t) :
    t.fault ≠ none ∨ t.xfer.busy = false := by
  cases hw : s.xfer.txc with
  | none =>
    cases (completeTransfer_of_no_buffer hf hw).symm.trans hm
    exact .inl nofun
  | some w =>
    cases hid : s.client with
    | none =>
      cases (completeTransfer_of_no_client hf (by simp [hw]) hid).symm.trans hm
      exact .inl nofun
    | some id =>
      cases (completeTransfer_of_client hw hid).symm.trans hm
      exact .inr rfl

section
variable {s t : State} (h : Inv s) (hb : Balanced s) (hp : Paced s) (hf : s.fault = none)
  (hbusy : s.xfer.busy = true)
include hp hf hbusy

section
include hb

/-- A paced pass finds the receive flag set, and the drain starts with nothing left to come (R181, R190 (1)). -/
theorem microRxTest_keeps_pace (hc : s.cur = .sRxt) (hm : microStep s = .next t) : Paced t := by
  have hs := hp hf hbusy
  simp only [hc] at hs
  obtain ⟨hmark, hip⟩ := hs
  cases (microStep_rxTest_of_pending hc hip).symm.trans hm
  exact fun _ _ => (hb.burst_returned hf (.inr hc) hmark hip).2

/-- After the drain nothing is in flight, so an armed transmit source is pending: the refill starts if there is more to send
(R184, R185). -/
theorem microTxTest_keeps_pace (hc : s.cur = .sTxt) (hm : microStep s = .next t) : Paced t := by
  have hs := hp hf hbusy
  simp only [hc] at hs
  obtain ⟨hdrained, harmed⟩ := hs
  have hends := hb.outstanding_ends hf (by rw [loopPushed, hc]) (by rw [waitPushed, hc])
  rw [hdrained] at hends
  obtain ⟨-, htxf, -⟩ := inFlight_all_in_rxf (s := s) (by omega)
  rw [microStep_of_txTest hc] at hm
  by_cases hip : ipTx s = true
  · by_cases hend : burstEnd s.xfer.txOffset s.xfer.ioLen = s.xfer.txOffset
    · cases (microTxTest_of_empty_burst hf hip hend).symm.trans hm
      exact nofun
    · cases (microTxTest_of_pending hip hend).symm.trans hm
      exact fun _ _ => hdrained
  · have hall : s.xfer.txOffset = s.xfer.ioLen := by
      by_contra hmore
      exact hip ((ipTx_iff s).2 ⟨harmed hmore, htxf⟩)
    cases (microTxTest_of_clear hip).symm.trans hm
    exact fun _ _ => .inl ⟨hall, hdrained.trans hall⟩

end

/-- The check completes a whole transfer, and else ends the pass with the new burst marked (R187). -/
theorem microFinish_keeps_pace (hc : s.cur = .sFin) (hm : microStep s = .next t) : Paced t := by
  have hs := hp hf hbusy
  simp only [hc] at hs
  rcases hs with ⟨htx, hrx⟩ | hmark
  · rw [microStep_finish_of_complete hc htx hrx] at hm
    exact fun hft hbt => (completeTransfer_ends hf hm).elim (absurd hft) fun hidle => nomatch hidle.symm.trans hbt
  · by_cases hall : s.xfer.txOffset = s.xfer.ioLen ∧ s.xfer.rxOffset = s.xfer.ioLen
    · obtain ⟨htx, hrx⟩ := hall
      obtain ⟨-, hmark⟩ := hmark
      rw [htx, hrx] at hmark
      omega
    · cases (microStep_finish_of_incomplete hc hall).symm.trans hm
      exact .of_marked rfl fun _ => hmark

include h

/-- The drain moves bytes out of RXF only; at its end the transmit source is armed if there is more to send (R182 to R184). -/
theorem microDrain_keeps_pace (hc : s.cur = .sRxl) (hm : microStep s = .next t) : Paced t := by
  have hs := hp hf hbusy
  simp only [hc] at hs
  rw [microStep_of_drain hc] at hm
  by_cases hend : s.xfer.rxOffset = s.xfer.txOffset
  · cases (microDrain_of_end hend).symm.trans hm
    intro _ _
    simp only [drainEnd_cur, drainEnd_xfer]
    exact ⟨hend, fun hmore => by rw [drainEnd_of_more_to_send hmore]⟩
  · cases hrxf : s.link.rxf with
    | nil =>
      cases (microDrain_of_empty hf hend hrxf).symm.trans hm
      exact nofun
    | cons v rest =>
      cases (microDrain_of_byte h hend hrxf).symm.trans hm
      exact fun _ _ => hs

/-- The exit of the refill marks the burst it has sent (R186). -/
theorem microRefill_keeps_pace {i before stop : Word} (hc : s.cur = .sTxl i before stop)
    (hm : microStep s = .next t) : Paced t := by
  have hs := hp hf hbusy
  simp only [hc] at hs
  have hagree := h.cur
  simp only [curAgrees, hc, Config.burst] at hagree
  obtain ⟨-, -, hle, hlt, hburst, -⟩ := hagree
  rw [microStep_of_refill hc] at hm
  rcases Nat.lt_or_eq_of_le hle with hmore | hend
  · obtain ⟨w, hw⟩ := Option.isSome_iff_exists.1 (h.owner hf hbusy)
    obtain ⟨hwf, hlen⟩ := h.refill_in_handle hc hw
    cases (microRefill_of_byte hmore (h.refill_has_room hc hmore) hw hwf hlen).symm.trans hm
    exact fun _ _ => hs
  · obtain rfl := BitVec.eq_of_toNat_eq hend
    cases microRefill_of_end.symm.trans hm
    have hmark := burstMark_toNat (burst := i.toNat - before.toNat) (by omega)
    refine fun _ _ => .inr ⟨rfl, ?_⟩
    simp only [refillEnd, hmark, hs]
    omega

/-- Each micro-step of a pass leaves the pace as the next `cur` wants it; a byte operation waits in an idle block only. -/
theorem microStep_keeps_pace (hb : Balanced s) (hm : microStep s = .next t) : Paced t := by
  cases hc : s.cur with
  | none =>
    cases (microStep_of_none hc).symm.trans hm
    exact hp
  | sRxt => exact microRxTest_keeps_pace hb hp hf hbusy hc hm
  | sRxl => exact microDrain_keeps_pace h hp hf hbusy hc hm
  | sTxt => exact microTxTest_keeps_pace hb hp hf hbusy hc hm
  | sTxl i before stop => exact microRefill_keeps_pace h hp hf hbusy hc hm
  | sFin => exact microFinish_keeps_pace hp hf hbusy hc hm
  | bWait k =>
    have hidle := h.cur
    simp only [curAgrees, hc] at hidle
    exact nomatch hidle.symm.trans hbusy

end

/-! ### The operations -/

section
variable {s t : State} (h : Inv s) (hb : Balanced s) (hp : Paced s) (hf : s.fault = none) (hc : s.cur = .none)
include h hb hp hf hc

/-- An accepted SUBMIT marks its first burst (R174). -/
theorem execSubmit_keeps_pace {n : Word} {w : Handle} {r : Option Handle} (hm : execSubmit n w r s = .next t) :
    Paced t := by
  rcases execSubmit_cases (hb.txf_empty_of_idle h hf hc) hm with ⟨st, rfl⟩ | ⟨f, u, rfl⟩ | ⟨-, hne, rfl⟩
  · exact hp
  · exact .of_hardFault f u
  · have hmark := burstMark_toNat (burst := firstBurst (ioLength n w r)) (Nat.min_le_left ..)
    refine .of_marked hc fun _ => ⟨rfl, ?_⟩
    rw [respond_xfer, armTransfer_txOffset_toNat]
    show 0 + (burstMark (firstBurst (ioLength n w r))).toNat + 1 = firstBurst (ioLength n w r)
    omega

/-- Every operation but an INIT during a transfer keeps the pace, if SERVICE is issued with the receive flag set. -/
theorem exec_keeps_pace {i : Instr} (hinit : i = .init → s.xfer.busy = false)
    (hservice : i = .service → s.xfer.busy = true → ipRx s = true) (hm : exec i s = .next t) : Paced t := by
  have hmarked (hbusy : s.xfer.busy = true) := hp.marked hf hbusy (.inl hc)
  cases exec_effect hm with
  | submitted | submitFault => exact execSubmit_keeps_pace h hb hp hf hc hm
  | byteOverflow => exact .of_hardFault _ s
  | init => exact .of_idle (by simpa using hinit rfl)
  | bytePushed k v _ hidle => exact .of_idle hidle
  | service => exact fun _ hbusy => ⟨hmarked hbusy, hservice rfl hbusy⟩
  | _ => exact .of_marked (by simpa using hc) (by simpa [burstMarked] using hmarked)

end

/-! ### The Shifter and the step -/

/-- Steps that touch the link only, pop no byte from RXF and do nothing to a quiet link keep the pace. -/
theorem Paced.of_link {s t : State} (hp : Paced s) (hf : s.fault = none) (hx : t.xfer = s.xfer)
    (hr : t.regs = s.regs) (hcur : t.cur = s.cur) (hrxf : s.link.rxf.length ≤ t.link.rxf.length)
    (hquiet : s.link.txf = [] ∧ s.link.sr = none → t = s) : Paced t := by
  intro _ hbt
  have hs := hp hf (hx ▸ hbt)
  cases hc : s.cur with
  | sRxl =>
    simp only [hc] at hs
    simpa only [hquiet hs, hc] using hs
  | sRxt =>
    simp only [hc, ipRx_iff] at hs
    obtain ⟨hmark, harmed, hlevel⟩ := hs
    simp only [hcur, hc, burstMarked, ipRx_iff, hx, hr]
    exact ⟨hmark, harmed, hlevel.trans_le hrxf⟩
  | bWait => simp only [hcur, hc]
  | _ => simpa only [hcur, hc, burstMarked, hx, hr] using hs

theorem shiftOut_keeps_pace {s : State} (hp : Paced s) (hf : s.fault = none) : Paced (shiftOut s) := by
  refine hp.of_link hf (by simp) (by simp) (by simp) (by simp) fun ⟨htxf, _⟩ => ?_
  rcases shiftOut_link s with ⟨b, rest, -, hne, -⟩ | heq
  · exact nomatch htxf.symm.trans hne
  · exact heq

theorem shiftIn_keeps_pace {s : State} (hp : Paced s) (hf : s.fault = none) (p : Byte) : Paced (shiftIn p s) := by
  refine hp.of_link hf (by simp) (by simp) (by simp) ?_ fun ⟨_, hsr⟩ => ?_
  · rcases shiftIn_cases p s with ⟨-, heq⟩ | ⟨-, -, heq⟩ | ⟨b, -, -, hrxf, -⟩
    · rw [heq]
    · simp [heq]
    · simp [hrxf]
  · rw [shiftIn, hsr]

theorem AgentStep.keeps_pace {s t : State} (ha : AgentStep s t) (h : Inv s) (hb : Balanced s) (hp : Paced s)
    (hf : s.fault = none) (hinit : ¬ initWhileBusy s)
    (hservice : issuesNext .service s → s.xfer.busy = true → ipRx s = true) : Paced t := by
  cases ha with
  | micro rest hm =>
    intro hft hbt
    have hbusy := (microStep_effect hm).busy_before hbt
    exact microStep_keeps_pace (h.withEnv rest) hp hf hbusy hb hm hft hbt
  | command rest hi hm =>
    have ⟨_, hc, _⟩ := hi
    refine exec_keeps_pace (h.withEnv rest) hb hp hf hc (fun hi' => ?_) (fun hi' => hservice (hi' ▸ hi)) hm
    by_contra hbusy
    exact hinit ⟨by simpa using hbusy, hi' ▸ hi⟩
  | unknownCommand | host => exact hp
  | frameStart rest => exact shiftOut_keeps_pace (s := { s with env := rest }) hp hf
  | frameEnd p rest => exact shiftIn_keeps_pace (s := { s with env := rest }) hp hf p

/-- Settles O55: each agent's step keeps the accounting and the pace, reset starts both anew, and the burst of a pass that may start
with the receive flag set is back in RXF. -/
theorem everyStepKeepsTheAccounting : Obligations.EveryStepKeepsTheAccounting := by
  refine ⟨fun s t h hb hinit hstep => ?_, fun s t h hb hp hinit hservice hstep => ?_,
    fun s hb hp hf hbusy hc hip => hb.burst_returned hf hc (hp.marked hf hbusy hc) hip⟩
  all_goals by_cases hr : resetNext s
  · obtain ⟨rest, henv⟩ := hr
    cases (step_of_reset henv).symm.trans hstep
    exact fun _ => rfl
  · obtain ⟨hf, u, rfl, ha⟩ := step_agent hstep hr
    exact ha.keeps_accounting h hb hf hinit
  · obtain ⟨rest, henv⟩ := hr
    cases (step_of_reset henv).symm.trans hstep
    exact .of_idle rfl
  · obtain ⟨hf, u, rfl, ha⟩ := step_agent hstep hr
    exact ha.keeps_pace h hb hp hf hinit hservice

/-! ## The Shifter steps -/

theorem s1Enabled_iff (s : State) :
    s1Enabled s = true ↔ s.fault = none ∧ s.link.sr = none ∧ 0 < s.link.txf.length := by
  simp [s1Enabled, List.length_pos_iff, and_assoc]

theorem s2Enabled_iff (s : State) : s2Enabled s = true ↔ s.fault = none ∧ ∃ b, s.link.sr = some b := by
  simp [s2Enabled, Option.ne_none_iff_exists']

theorem step_s1 {s : State} {rest : List Move} (hf : s.fault = none) (henv : s.env = .s1 :: rest) :
    step s = .next (countStep (shiftOut { s with env := rest })) := by
  rw [step_of_no_fault hf, takeMove, henv, onNext_next]

theorem step_s2 {s : State} {p : Byte} {rest : List Move} (hf : s.fault = none) (henv : s.env = .s2 p :: rest) :
    step s = .next (countStep (shiftIn p { s with env := rest })) := by
  rw [step_of_no_fault hf, takeMove, henv, onNext_next]

theorem assertLine_eq_withLine (s : State) :
    assertLine s = withLine true
      (if s.link.csActive = true then s.ports.wire else s.ports.wire ++ [.csAssert s.regs.csid]) s := by
  unfold assertLine
  split
  · next h => rw [withLine, ← h]
  · rfl

/-- A frame start with a byte waiting (R209). -/
theorem shiftOut_of_byte {s : State} {b : Byte} {q : List Byte} (hsr : s.link.sr = none)
    (htxf : s.link.txf = b :: q) :
    shiftOut s = withLine true
      (if s.link.csActive = true then s.ports.wire else s.ports.wire ++ [.csAssert s.regs.csid])
      { s with link.txf := q, link.sr := some b } := by
  rw [shiftOut, hsr, htxf]
  exact assertLine_eq_withLine _

/-- Settles O40: the step is `S1`, which takes its byte and asserts the line. -/
theorem frameStartTakesTheHeadOfTxf : Obligations.FrameStartTakesTheHeadOfTxf := by
  refine ⟨s1Enabled_iff, fun s b q rest hf henv hsr htxf => ?_⟩
  rw [step_s1 hf henv, shiftOut_of_byte (s := { s with env := rest }) hsr htxf]
  rfl

theorem releaseIfAuto_eq_withLine (s : State) :
    releaseIfAuto s = withLine (if s.regs.csmode = .auto then false else s.link.csActive)
      (s.ports.wire ++ if s.regs.csmode = .auto then [.csDeassert s.regs.csid] else []) s := by
  cases h : s.regs.csmode <;> simp [releaseIfAuto, withLine, emitWire, h]

/-- A frame end with RXF full (R210, R232). -/
theorem shiftIn_of_full {s : State} {b : Byte} (p : Byte) (hf : s.fault = none) (hsr : s.link.sr = some b)
    (hfull : s.link.rxf.length = 8) : shiftIn p s = { s with fault := some .rxOverrun } := by
  have hfull : rxFull s = true := decide_eq_true hfull
  rw [shiftIn, hsr]
  exact (if_pos hfull).trans (raiseHardFault_of_none _ hf)

/-- A frame end with room in RXF (R210, R213). -/
theorem shiftIn_of_room {s : State} {b : Byte} (p : Byte) (hsr : s.link.sr = some b)
    (hroom : s.link.rxf.length ≠ 8) :
    shiftIn p s = withLine (if s.regs.csmode = .auto then false else s.link.csActive)
      (s.ports.wire ++ [.frame b (peerAnswer s b p)] ++
        if s.regs.csmode = .auto then [.csDeassert s.regs.csid] else [])
      { s with link.rxf := s.link.rxf ++ [peerAnswer s b p], link.sr := none } := by
  have hroom : ¬ rxFull s = true := fun hfull => hroom (of_decide_eq_true hfull)
  rw [shiftIn, hsr]
  exact (if_neg hroom).trans (releaseIfAuto_eq_withLine _)

/-- Settles O41: the step is `S2`, by the room in RXF. -/
theorem frameEndAppendsTheAnswer : Obligations.FrameEndAppendsTheAnswer := by
  refine ⟨s2Enabled_iff, fun s b p rest hf henv hsr => ?_⟩
  rw [step_s2 hf henv]
  refine ⟨fun hfull => ?_, fun hroom => ?_⟩
  · rw [shiftIn_of_full (s := { s with env := rest }) p hf hsr hfull]
    rfl
  · rw [shiftIn_of_room (s := { s with env := rest }) p hsr hroom]
    rfl

/-! ## What a Shifter step leaves unchanged -/

/-- `s` with another link, wire trace and fault: all a Shifter step may touch (R216). -/
def withShifter (link : Link) (wire : List WireEvent) (fault : Option HardFault) (s : State) : State :=
  { s with link := link, ports.wire := wire, fault := fault }

theorem shiftOut_eq_withShifter (s : State) : ∃ link wire fault, shiftOut s = withShifter link wire fault s := by
  unfold shiftOut
  split
  · rw [assertLine_eq_withLine]
    exact ⟨_, _, _, rfl⟩
  · exact ⟨_, _, _, rfl⟩
  · exact ⟨_, _, _, rfl⟩

theorem shiftIn_eq_withShifter {s : State} (p : Byte) (hf : s.fault = none) :
    ∃ link wire fault, shiftIn p s = withShifter link wire fault s := by
  cases hsr : s.link.sr with
  | none => exact ⟨_, _, _, by rw [shiftIn, hsr]; rfl⟩
  | some b =>
    by_cases hfull : s.link.rxf.length = 8
    · exact ⟨_, _, _, shiftIn_of_full p hf hsr hfull⟩
    · exact ⟨_, _, _, shiftIn_of_room p hsr hfull⟩

/-- TXF is at most popped, RXF at most pushed, and between the two ports no byte is lost or made; an echo keeps their order (R206,
R213, R216). -/
def MovesBytesOnly (s t : State) : Prop :=
  (t.link.txf = s.link.txf ∨ ∃ b, s.link.txf = b :: t.link.txf) ∧
    (t.link.rxf = s.link.rxf ∨ ∃ p, t.link.rxf = s.link.rxf ++ [p]) ∧
    outstanding t = outstanding s ∧ (s.params.loopback = true → inFlight t = inFlight s)

theorem shiftOut_movesBytesOnly (s : State) : MovesBytesOnly s (shiftOut s) := by
  refine ⟨?_, .inl (shiftOut_link_rxf s), ?_, fun _ => shiftOut_inFlight s⟩
  · rcases shiftOut_link s with ⟨b, rest, -, htxf, htxf', -⟩ | heq
    · exact .inr ⟨b, htxf' ▸ htxf⟩
    · exact .inl (by rw [heq])
  · rw [← inFlight_length, ← inFlight_length, shiftOut_inFlight]

theorem shiftIn_movesBytesOnly (p : Byte) (s : State) : MovesBytesOnly s (shiftIn p s) := by
  have hcount : outstanding (shiftIn p s) = outstanding s := by
    rw [← inFlight_length, ← inFlight_length, shiftIn_inFlight_length]
  refine ⟨.inl (shiftIn_link_txf p s), ?_⟩
  rcases shiftIn_cases p s with ⟨-, heq⟩ | ⟨-, -, heq⟩ | ⟨b, hsr, -, hrxf, hsr', -⟩
  · rw [heq]
    exact ⟨.inl rfl, rfl, fun _ => rfl⟩
  · exact ⟨.inl (by simp [heq]), hcount, fun _ => by simp [heq, inFlight]⟩
  · exact ⟨.inr ⟨_, hrxf⟩, hcount, fun hl => by simp [inFlight, hsr, hrxf, hsr', peerAnswer, hl]⟩

/-- Settles O42: a Shifter step writes the link, the wire trace and the fault only, and of the link moves bytes only. -/
theorem shifterTouchesOnlyTheLink : Obligations.ShifterTouchesOnlyTheLink := by
  intro s t rest henv hstep
  have hr : ¬ resetNext s := fun ⟨_, hrst⟩ => by simp [hrst] at henv
  have hf := no_fault_of_step hstep hr
  suffices hu : ∃ u, t = countStep u ∧ (∃ link wire fault, u = withShifter link wire fault { s with env := rest }) ∧
      MovesBytesOnly s u by
    obtain ⟨u, rfl, ⟨link, wire, fault, rfl⟩, hbytes⟩ := hu
    exact ⟨rfl, rfl, rfl, rfl, fun _ => rfl, rfl, rfl, rfl, rfl, hbytes⟩
  rcases henv with henv | ⟨p, henv⟩
  · exact ⟨_, Host.Outcome.next.inj (hstep.symm.trans (step_s1 hf henv)), shiftOut_eq_withShifter _,
      shiftOut_movesBytesOnly { s with env := rest }⟩
  · exact ⟨_, Host.Outcome.next.inj (hstep.symm.trans (step_s2 hf henv)), shiftIn_eq_withShifter p hf,
      shiftIn_movesBytesOnly p { s with env := rest }⟩

/-! ## The chip-select line -/

theorem selectedLine_of_lt {s : State} (h : s.regs.csid.toNat < s.params.ncs) :
    selectedLine s = some s.regs.csid.toNat :=
  if_pos h

theorem lineLevel_of_csdef {s : State} {k : Nat} {d : Bool} (h : s.regs.csid.toNat < s.params.ncs)
    (hd : s.regs.csdef[k]? = some d) :
    lineLevel s k = some (if s.link.csActive = true ∧ k = s.regs.csid.toNat then !d else d) := by
  simp [lineLevel, selectedLine_of_lt h, hd, eq_comm (a := k)]

theorem lineLevel_of_no_csdef {s : State} {k : Nat} (hd : s.regs.csdef[k]? = none) : lineLevel s k = none := by
  rw [lineLevel, hd, Option.map_none]

theorem writeCsAuto_falls {s : State} (hne : (writeCsAuto s).link.csActive ≠ s.link.csActive) :
    s.link.sr = none ∧ (writeCsAuto s).link.csActive = false := by
  rcases writeCsAuto_line s with ⟨-, hsr, hfall, -⟩ | ⟨-, hkept, -⟩
  · exact ⟨hsr, hfall⟩
  · exact absurd hkept hne

theorem writeCsid_falls {s : State} {id : Word} (hne : (writeCsid id s).link.csActive ≠ s.link.csActive) :
    (writeCsid id s).link.csActive = false := by
  rcases disturbLine_cases 1 s with hkept | ⟨-, hfall⟩
  · exact absurd (by rw [writeCsid, hkept]) hne
  · rw [writeCsid, hfall]

theorem initFields_falls {s : State} (hne : (initFields s).link.csActive ≠ s.link.csActive) :
    (initFields s).link.csActive = false := by
  rcases initFields_line s with ⟨hkept, -⟩ | ⟨-, hfall, -⟩
  · exact absurd hkept hne
  · exact hfall

/-- The operations that may release the line (R211 (c), (e)). -/
theorem IssueEffect.line_falls {s t : State} {i : Instr} (he : IssueEffect s i t)
    (hne : t.link.csActive ≠ s.link.csActive) :
    t.link.csActive = false ∧ ((i = .rellow ∧ s.link.sr = none) ∨ i = .init ∨ ∃ id, i = .setcs id) := by
  cases he with
  | init => exact ⟨initFields_falls hne, .inr (.inl rfl)⟩
  | @setcs id => exact ⟨writeCsid_falls (id := id) hne, .inr (.inr ⟨_, rfl⟩)⟩
  | rellow =>
    obtain ⟨hsr, hfall⟩ := writeCsAuto_falls hne
    exact ⟨hfall, .inl ⟨rfl, hsr⟩⟩
  | _ => exact absurd (by simp [primed]) hne

/-- Of the micro-steps only the completion may release it (R211 (c)). -/
theorem MicroEffect.line_falls {s t : State} (he : MicroEffect s t) (hne : t.link.csActive ≠ s.link.csActive) :
    t.link.csActive = false ∧ s.cur = .sFin ∧ s.link.sr = none := by
  have hpulse (hc : s.cur = .sFin) (ht : t.link.csActive = (completionStart s).link.csActive) :
      t.link.csActive = false ∧ s.cur = .sFin ∧ s.link.sr = none := by
    obtain ⟨hsr, hfall⟩ := writeCsAuto_falls (ht ▸ hne)
    exact ⟨ht.trans hfall, hc, hsr⟩
  cases he with
  | completionNoBuffer hc | completionNoClient hc | completed hc => exact hpulse hc (by simp)
  | _ => exact absurd (by simp) hne

/-- `S1` asserts it (R211 (a)). -/
theorem shiftOut_line_rises {s : State} (hne : (shiftOut s).link.csActive ≠ s.link.csActive) :
    (shiftOut s).link.csActive = true ∧ s.link.sr = none ∧ s.link.txf ≠ [] := by
  rcases shiftOut_link s with ⟨b, rest, hsr, htxf, -, -, hrise⟩ | heq
  · exact ⟨hrise, hsr, by simp [htxf]⟩
  · exact absurd (by rw [heq]) hne

/-- `S2` releases it in AUTO (R211 (b)). -/
theorem shiftIn_line_falls {s : State} {p : Byte} (hf : s.fault = none)
    (hne : (shiftIn p s).link.csActive ≠ s.link.csActive) :
    (shiftIn p s).link.csActive = false ∧ s.regs.csmode = .auto ∧ s.link.sr ≠ none := by
  cases hsr : s.link.sr with
  | none => exact absurd (by rw [shiftIn, hsr]) hne
  | some b =>
    by_cases hfull : s.link.rxf.length = 8
    · exact absurd (by rw [shiftIn_of_full p hf hsr hfull]) hne
    · rw [shiftIn_of_room p hsr hfull] at hne ⊢
      cases hmode : s.regs.csmode with
      | auto => exact ⟨by simp [withLine], rfl, nofun⟩
      | hold => exact absurd (by simp [withLine, hmode]) hne

/-- Settles O43: each agent's step that changes the line is one R211 lists. -/
theorem chipSelectChangesOnlyAsListed : Obligations.ChipSelectChangesOnlyAsListed := by
  refine ⟨fun s k hid => ⟨fun d => lineLevel_of_csdef hid, lineLevel_of_no_csdef⟩, fun s t hstep hne => ?_⟩
  by_cases hr : resetNext s
  · exact .inl hr
  obtain ⟨hf, u, rfl, ha⟩ := step_agent hstep hr
  refine .inr ?_
  cases ha with
  | micro rest hm =>
    obtain ⟨hfall, hc⟩ := (microStep_effect hm).line_falls hne
    exact .inr ⟨hfall, .inr (.inr (.inl hc))⟩
  | command rest hi hm =>
    obtain ⟨hfall, ⟨rfl, hsr⟩ | rfl | ⟨id, rfl⟩⟩ := (exec_effect hm).line_falls hne
    · exact .inr ⟨hfall, .inr (.inl ⟨hi, hsr⟩)⟩
    · exact .inr ⟨hfall, .inr (.inr (.inr (.inl hi)))⟩
    · exact .inr ⟨hfall, .inr (.inr (.inr (.inr ⟨id, hi⟩)))⟩
  | unknownCommand | host => exact absurd rfl hne
  | frameStart rest henv =>
    obtain ⟨hrise, hsr, htxf⟩ := shiftOut_line_rises hne
    exact .inl ⟨hrise, ⟨rest, henv⟩, hsr, htxf⟩
  | frameEnd p rest henv =>
    obtain ⟨hfall, hmode, hsr⟩ := shiftIn_line_falls (s := { s with env := rest }) hf hne
    exact .inr ⟨hfall, .inl ⟨p, rest, henv, hmode, hsr⟩⟩

end Sys2Proof.Machine

/-! PROOF. The exceptions (`60_exceptions.md`): the error returns and what each of them tells (R220 to R222), the hard fault state
(R225, R226), and the hard faults a balanced run can come to (R227 to R233). -/

namespace Sys2Proof.Machine

/-! ## The error returns -/

/-- A command that is answered BUSY: the tests that come before the `busy` test pass (R221, R224). -/
def IsBusy (i : Instr) (s : State) : Prop :=
  s.xfer.busy = true ∧ s.inited = true ∧
    ((∃ hz, i = .setrate hz ∧ 1954 ≤ hz.toNat ∧ hz.toNat ≤ 8000000) ∨
      (∃ l, i = .setpol l) ∨ (∃ e, i = .setpha e) ∨ (∃ v, i = .wrbyte v) ∨ i = .rdbyte ∨ (∃ v, i = .rwbyte v) ∨
      (∃ n w r, i = .submit n w r ∧ legalHandles w r ∧ 0 < txLenNat n w))

/-- A command that is answered INVAL (R222). -/
def IsInval (i : Instr) (s : State) : Prop :=
  s.inited = true ∧
    ((∃ hz, i = .setrate hz ∧ (hz.toNat < 1954 ∨ 8000000 < hz.toNat)) ∨
      (∃ n w r, i = .submit n w r ∧ legalHandles w r ∧ txLenNat n w = 0))

/-- The command `i`, issued in `s`, ends in the error return of the status. -/
inductive ErrorReturn (i : Instr) (s : State) : Status → Prop
  | busy (h : IsBusy i s) : ErrorReturn i s .busy
  | inval (h : IsInval i s) : ErrorReturn i s .inval
  | illegal (h : IsIllegal i s) : ErrorReturn i s .illegal

theorem exec_of_isBusy {i : Instr} {s : State} (h : IsBusy i s) : exec i s = .next (answered .busy 0 s) := by
  obtain ⟨hb, hi, ⟨hz, rfl, hrange⟩ | ⟨l, rfl⟩ | ⟨e, rfl⟩ | ⟨v, rfl⟩ | rfl | ⟨v, rfl⟩ | ⟨n, w, r, rfl, hlegal, htx⟩⟩ := h
  · rw [exec_setrate_of_in_range hi ((rateInRange_iff hz).2 hrange), whenIdle_of_busy _ hb]
  · exact (whenInited_of_inited _ hi).trans (whenIdle_of_busy _ hb)
  · exact (whenInited_of_inited _ hi).trans (whenIdle_of_busy _ hb)
  · exact byteExchange_of_busy .wr v hi hb
  · exact byteExchange_of_busy .rd 0 hi hb
  · exact byteExchange_of_busy .rw v hi hb
  · rw [exec_submit_of_positive hi hlegal htx, whenIdle_of_busy _ hb]

theorem exec_of_isInval {i : Instr} {s : State} (h : IsInval i s) : exec i s = .next (answered .inval 0 s) := by
  obtain ⟨hi, ⟨hz, rfl, hout⟩ | ⟨n, w, r, rfl, hlegal, htx⟩⟩ := h
  · exact exec_setrate_of_out_of_range hi ((rateInRange_eq_false_iff hz).2 hout)
  · rw [exec_submit_of_legal hi hlegal, if_pos ((txLength_eq_zero_iff n w).2 htx)]

/-- An error return is the status code alone (R220). -/
theorem exec_of_errorReturn {i : Instr} {s : State} {st : Status} (h : ErrorReturn i s st) :
    exec i s = .next (answered st 0 s) := by
  cases h with
  | busy h => exact exec_of_isBusy h
  | inval h => exact exec_of_isInval h
  | illegal h => exact exec_of_isIllegal h

/-- A response that the outcome `o` of an `Issue` step adds to those of `s` has the status OK or one `E` allows. -/
def ErrsOnlyAs (E : Status → Prop) (s : State) (o : Result) : Prop :=
  ∀ t st d, o = .next t → t.ports.responses = s.ports.responses ++ [⟨st, d⟩] → st ≠ .ok → E st

section
variable {E : Status → Prop} {s u : State}

theorem errsOnlyAs_silent (hr : u.ports.responses = s.ports.responses) : ErrsOnlyAs E s (.next u) := by
  rintro _ st d ⟨⟩ hresp
  simp [hr] at hresp

theorem errsOnlyAs_respond {st : Status} (d : Word) (hr : u.ports.responses = s.ports.responses)
    (hst : st ≠ .ok → E st) : ErrsOnlyAs E s (.next (respond st d u)) := by
  rintro _ st' d' ⟨⟩ hresp
  obtain ⟨rfl, -⟩ : st = st' ∧ d = d' := by simpa [hr] using hresp
  exact hst

theorem errsOnlyAs_ok (d : Word) (hr : u.ports.responses = s.ports.responses) :
    ErrsOnlyAs E s (.next (respond .ok d u)) :=
  errsOnlyAs_respond d hr (absurd rfl)

theorem errsOnlyAs_whenInited {k : Result} (hill : s.inited = false → E .illegal)
    (hk : s.inited = true → ErrsOnlyAs E s k) : ErrsOnlyAs E s (whenInited s k) := by
  rcases whenInited_cases s k with ⟨hi, h⟩ | ⟨hi, h⟩ <;> rw [h]
  · exact hk hi
  · exact errsOnlyAs_respond 0 rfl fun _ => hill hi

theorem errsOnlyAs_whenIdle {k : Result} (hbusy : s.xfer.busy = true → E .busy) (hk : ErrsOnlyAs E s k) :
    ErrsOnlyAs E s (whenIdle s k) := by
  rcases whenIdle_cases s k with ⟨-, h⟩ | ⟨hb, h⟩ <;> rw [h]
  · exact hk
  · exact errsOnlyAs_respond 0 rfl fun _ => hbusy hb

/-- Past its tests SUBMIT is answered OK, or not at all (R170). -/
theorem acceptSubmit_errsOnlyAs (n : Word) (w : Handle) (r : Option Handle) : ErrsOnlyAs E s (acceptSubmit n w r s) := by
  unfold acceptSubmit
  dsimp only
  split
  · exact errsOnlyAs_silent (by simp)
  · obtain ⟨l, h | h⟩ := pushBytes_only_txf
      (memBytes s.mem w.base.toNat (firstBurst (ioLength n w r)))
      { s with xfer.busy := true, xfer.ioLen := ioLength n w r } <;> rw [h]
    · exact errsOnlyAs_ok 0 rfl
    · exact errsOnlyAs_silent (by simp)

/-- A byte operation gives no response in its `Issue` step but an error (R163). -/
theorem byteExchange_errsOnlyAs (k : ByteKind) (v : Byte) (hill : s.inited = false → E .illegal)
    (hbusy : s.inited = true → s.xfer.busy = true → E .busy) : ErrsOnlyAs E s (byteExchange k v s) := by
  refine errsOnlyAs_whenInited hill fun hi => errsOnlyAs_whenIdle (hbusy hi) ?_
  split <;> exact errsOnlyAs_silent (by simp)

end

theorem execSubmit_errsOnlyAs (n : Word) (w : Handle) (r : Option Handle) (s : State) :
    ErrsOnlyAs (ErrorReturn (.submit n w r) s) s (execSubmit n w r s) := by
  refine errsOnlyAs_whenInited (fun hi => .illegal (.inl ⟨hi, rfl⟩)) fun hi => ?_
  split
  case isFalse hl =>
    exact errsOnlyAs_respond 0 rfl fun _ => .illegal (.inr (.inr ⟨n, w, r, rfl, mt (submitLegal_iff w r).2 hl⟩))
  case isTrue hl =>
    have hlegal := (submitLegal_iff w r).1 hl
    split
    case isTrue htx =>
      exact errsOnlyAs_respond 0 rfl fun _ =>
        .inval ⟨hi, .inr ⟨n, w, r, rfl, hlegal, (txLength_eq_zero_iff n w).1 htx⟩⟩
    case isFalse htx =>
      have hpos : 0 < txLenNat n w := Nat.pos_of_ne_zero (mt (txLength_eq_zero_iff n w).2 htx)
      exact errsOnlyAs_whenIdle (fun hb => .busy ⟨hb, hi, by simp [hlegal, hpos]⟩) (acceptSubmit_errsOnlyAs n w r)

theorem execSetrate_errsOnlyAs (hz : Word) (s : State) :
    ErrsOnlyAs (ErrorReturn (.setrate hz) s) s (execSetrate hz s) := by
  refine errsOnlyAs_whenInited (fun hi => .illegal (.inl ⟨hi, rfl⟩)) fun hi => ?_
  split
  case isTrue hr =>
    exact errsOnlyAs_whenIdle (fun hb => .busy ⟨hb, hi, .inl ⟨hz, rfl, (rateInRange_iff hz).1 hr⟩⟩)
      (errsOnlyAs_ok hz rfl)
  case isFalse hr =>
    exact errsOnlyAs_respond 0 rfl fun _ =>
      .inval ⟨hi, .inl ⟨hz, rfl, (rateInRange_eq_false_iff hz).1 (by simpa using hr)⟩⟩

theorem execSetclient_errsOnlyAs (id : Word) (s : State) :
    ErrsOnlyAs (ErrorReturn (.setclient id) s) s (execSetclient id s) := by
  unfold execSetclient
  split
  · next hc => exact errsOnlyAs_respond 0 rfl fun _ => .illegal (.inr (.inl ⟨id, rfl, by simp [hc]⟩))
  · exact errsOnlyAs_ok 0 rfl

/-- No operation gives another error return than those of R108, R221 and R222. -/
theorem exec_errsOnlyAs (i : Instr) (s : State) : ErrsOnlyAs (ErrorReturn i s) s (exec i s) := by
  have hill (hb : beforeInit i = false) (hi : s.inited = false) : ErrorReturn i s .illegal := .illegal (.inl ⟨hi, hb⟩)
  cases i with
  | init => exact errsOnlyAs_ok 0 (by simp)
  | setclient id => exact execSetclient_errsOnlyAs id s
  | isbusy | gpioinit => exact errsOnlyAs_ok _ rfl
  | setrate hz => exact execSetrate_errsOnlyAs hz s
  | setpol | setpha =>
    exact errsOnlyAs_whenInited (hill rfl) fun hi =>
      errsOnlyAs_whenIdle (fun hb => .busy ⟨hb, hi, by simp⟩) (errsOnlyAs_ok 0 rfl)
  | wrbyte | rdbyte | rwbyte =>
    exact byteExchange_errsOnlyAs _ _ (hill rfl) fun hi hb => .busy ⟨hb, hi, by simp⟩
  | submit n w r => exact execSubmit_errsOnlyAs n w r s
  | service => exact errsOnlyAs_whenInited (hill rfl) fun _ => errsOnlyAs_silent rfl
  | setcs | getrate | getpol | getpha | holdlow | rellow =>
    exact errsOnlyAs_whenInited (hill rfl) fun _ => errsOnlyAs_ok _ (by simp)

/-- An error is answered, with nothing else changed, by exactly the commands that end in it. -/
theorem exec_eq_answered_error_iff (i : Instr) (s : State) {st : Status} (hst : st ≠ .ok) :
    exec i s = .next (answered st 0 s) ↔ ErrorReturn i s st :=
  ⟨fun h => exec_errsOnlyAs i s _ st 0 h rfl hst, exec_of_errorReturn⟩

/-- Settles O10: BUSY is an error return, and one of the three. -/
theorem busyAnsweredByExactlySeven : Obligations.BusyAnsweredByExactlySeven := fun i s =>
  (exec_eq_answered_error_iff i s (by decide)).trans ⟨fun | .busy h => h, .busy⟩

/-- Settles O11: INVAL is an error return, and one of the three. -/
theorem invalAnsweredByExactlyTwo : Obligations.InvalAnsweredByExactlyTwo := fun i s =>
  (exec_eq_answered_error_iff i s (by decide)).trans ⟨fun | .inval h => h, .inval⟩

/-- Settles O13: a response other than OK comes from an error return, whose outcome is known whole. -/
theorem errorReturnChangesNothing : Obligations.ErrorReturnChangesNothing := by
  intro i s t st d h hresp hst
  have herr := exec_errsOnlyAs i s t st d h hresp hst
  obtain rfl : t = answered st 0 s := by simpa [h] using exec_of_errorReturn herr
  obtain rfl : 0 = d := by simpa [answered] using hresp
  exact ⟨rfl, rfl⟩

/-! ## The hard fault state -/

/-- The codes tell the hard faults apart (R225). -/
theorem hardFaultCode_inj {f g : HardFault} : hardFaultCode f = hardFaultCode g ↔ f = g := by
  cases f <;> cases g <;> decide

/-- No hard fault has the code 0 (R225). -/
theorem hardFaultCode_ne_zero (f : HardFault) : hardFaultCode f ≠ 0 := by
  cases f <;> decide

theorem faultCode_eq_zero_iff (s : State) : faultCode s = 0 ↔ s.fault = none := by
  unfold faultCode
  cases s.fault with
  | none => simp
  | some f => simpa using hardFaultCode_ne_zero f

theorem faultCode_eq_hardFaultCode_iff (s : State) (f : HardFault) :
    faultCode s = hardFaultCode f ↔ s.fault = some f := by
  unfold faultCode
  cases s.fault with
  | none => simpa using (hardFaultCode_ne_zero f).symm
  | some g => simp [hardFaultCode_inj]

/-- In the hard fault state every step but reset stops (R226, log 12). -/
theorem step_of_hardFault {s : State} {f : HardFault} (hf : s.fault = some f) (hr : ¬ resetNext s) :
    step s = .fault (.halted f) := by
  have hmove : nextMove s = .fault (.halted f) := by
    unfold nextMove
    simp only [hf]
    split
    · next rest henv => exact absurd ⟨rest, henv⟩ hr
    · rfl
  rw [step, hmove]
  rfl

/-- Settles O44: the codes are distinct and not 0, and a step of the hard fault state looks for reset only. -/
theorem hardFaultStopsEveryStepButReset : Obligations.HardFaultStopsEveryStepButReset := by
  refine ⟨fun s => ?_, fun s f hf => ⟨step_of_hardFault hf, fun ⟨rest, henv⟩ => ⟨_, step_of_reset henv, rfl⟩⟩⟩
  have hcode := faultCode_eq_hardFaultCode_iff s
  exact ⟨faultCode_eq_zero_iff s, hcode .rxFifoEmpty, hcode .txFifoFull, hcode .noTxBuffer, hcode .noClient,
    hcode .txOverflow, hcode .rxOverrun, hcode .watermarkUnderflow⟩

/-! ## The hard faults of a balanced run -/

/-- A next state that the outcome `o` answers has no hard fault, or one `P` allows. -/
def FaultsOnlyAs (P : HardFault → Prop) (o : Result) : Prop := ∀ t f, o = .next t → t.fault = some f → P f

section
variable {P : HardFault → Prop} {s u : State}

theorem faultsOnlyAs_of_no_fault (hu : u.fault = none) : FaultsOnlyAs P (.next u) := by
  rintro _ f ⟨⟩ hf
  exact nomatch hu.symm.trans hf

theorem faultsOnlyAs_of_fault {f : HardFault} (hu : u.fault = some f) (hp : P f) : FaultsOnlyAs P (.next u) := by
  rintro _ g ⟨⟩ hg
  obtain rfl : f = g := Option.some.inj (hu.symm.trans hg)
  exact hp

theorem faultsOnlyAs_whenInited {k : Result} (hf : s.fault = none) (hk : s.inited = true → FaultsOnlyAs P k) :
    FaultsOnlyAs P (whenInited s k) := by
  rcases whenInited_cases s k with ⟨hi, h⟩ | ⟨-, h⟩ <;> rw [h]
  · exact hk hi
  · exact faultsOnlyAs_of_no_fault hf

theorem faultsOnlyAs_whenIdle {k : Result} (hf : s.fault = none) (hk : s.xfer.busy = false → FaultsOnlyAs P k) :
    FaultsOnlyAs P (whenIdle s k) := by
  rcases whenIdle_cases s k with ⟨hb, h⟩ | ⟨-, h⟩ <;> rw [h]
  · exact hk hb
  · exact faultsOnlyAs_of_no_fault hf

end

/-! ### The micro-steps -/

/-- The hard faults of a micro-step of a run (R227, R229, R230). -/
inductive MicroFault (s : State) : HardFault → Prop
  | rxFifoEmpty : MicroFault s .rxFifoEmpty
  | noClient : MicroFault s .noClient
  /-- The completion check of a spurious pass. -/
  | noTxBuffer (hc : s.cur = .sFin) (hb : s.xfer.busy = false) : MicroFault s .noTxBuffer

section
variable {s : State} (h : Inv s) (hf : s.fault = none)
include h hf

theorem Inv.microDrain_faults : FaultsOnlyAs (MicroFault s) (microDrain s) := by
  by_cases hend : s.xfer.rxOffset = s.xfer.txOffset
  · rw [microDrain_of_end hend]
    exact faultsOnlyAs_of_no_fault (by simpa using hf)
  · cases hrxf : s.link.rxf with
    | nil =>
      rw [microDrain_of_empty hf hend hrxf]
      exact faultsOnlyAs_of_fault rfl .rxFifoEmpty
    | cons v rest =>
      rw [microDrain_of_byte h hend hrxf]
      exact faultsOnlyAs_of_no_fault hf

/-- While the transmit source is armed bytes remain to be sent, so no refill starts with an empty burst (R185, R233). -/
theorem Inv.microTxTest_faults : FaultsOnlyAs (MicroFault s) (microTxTest s) := by
  by_cases hip : ipTx s = true
  · obtain ⟨hie, -⟩ := (ipTx_iff s).1 hip
    have hmore := h.armed hie
    have hburst : burstEnd s.xfer.txOffset s.xfer.ioLen ≠ s.xfer.txOffset := by
      rw [ne_eq, burstEnd_eq_iff]
      omega
    rw [microTxTest_of_pending hip hburst]
    exact faultsOnlyAs_of_no_fault hf
  · rw [microTxTest_of_clear hip]
    exact faultsOnlyAs_of_no_fault hf

/-- The refill loop of a run finds room in TXF and a buffer to send from (R186, R228, R229). -/
theorem Inv.microRefill_faults {i before stop : Word} (hc : s.cur = .sTxl i before stop) :
    FaultsOnlyAs (MicroFault s) (microRefill i before stop s) := by
  obtain ⟨w, hw⟩ := Option.isSome_iff_exists.1 (h.owner hf (h.busy_of_refill hc))
  obtain ⟨hwf, hlen⟩ := h.refill_in_handle hc hw
  by_cases hlt : i.toNat < stop.toNat
  · rw [microRefill_of_byte hlt (h.refill_has_room hc hlt) hw hwf hlen]
    exact faultsOnlyAs_of_no_fault hf
  · obtain rfl : i = stop := by
      have hagree := h.cur
      simp only [curAgrees, hc] at hagree
      exact BitVec.eq_of_toNat_eq (by omega)
    rw [microRefill_of_end]
    exact faultsOnlyAs_of_no_fault hf

/-- A busy block owns its transmit buffer, so the completion misses one only in an idle block (R188, R229). -/
theorem Inv.completeTransfer_faults (hc : s.cur = .sFin) : FaultsOnlyAs (MicroFault s) (completeTransfer s) := by
  cases hw : s.xfer.txc with
  | none =>
    have hidle : s.xfer.busy = false := by
      by_contra hb
      simpa [hw] using h.owner hf (by simpa using hb)
    rw [completeTransfer_of_no_buffer hf hw]
    exact faultsOnlyAs_of_fault rfl (.noTxBuffer hc hidle)
  | some w =>
    cases hid : s.client with
    | none =>
      rw [completeTransfer_of_no_client hf (by simp [hw]) hid]
      exact faultsOnlyAs_of_fault rfl .noClient
    | some id =>
      rw [completeTransfer_of_client hw hid]
      exact faultsOnlyAs_of_no_fault (by simpa [answered] using hf)

theorem Inv.microStep_faults : FaultsOnlyAs (MicroFault s) (microStep s) := by
  cases hc : s.cur with
  | none => exact microStep_of_none hc ▸ faultsOnlyAs_of_no_fault hf
  | sRxt =>
    rw [microStep, hc]
    exact faultsOnlyAs_of_no_fault hf
  | sRxl => exact microStep_of_drain hc ▸ h.microDrain_faults hf
  | sTxt => exact microStep_of_txTest hc ▸ h.microTxTest_faults hf
  | sTxl i before stop => exact microStep_of_refill hc ▸ h.microRefill_faults hf hc
  | sFin =>
    by_cases hend : s.xfer.txOffset = s.xfer.ioLen ∧ s.xfer.rxOffset = s.xfer.ioLen
    · exact microStep_finish_of_complete hc hend.1 hend.2 ▸ h.completeTransfer_faults hf hc
    · exact microStep_finish_of_incomplete hc hend ▸ faultsOnlyAs_of_no_fault hf
  | bWait k =>
    rw [microStep_of_wait hc]
    cases hrxf : s.link.rxf with
    | nil => exact microByteWait_of_empty k hrxf ▸ faultsOnlyAs_of_no_fault hf
    | cons r rest => exact microByteWait_of_byte k hrxf ▸ faultsOnlyAs_of_no_fault hf

end

/-! ### The operations -/

/-- A SUBMIT that has something to send and nothing to exchange has a read buffer of length 0 (R172, R233). -/
theorem read_buffer_empty_of_ioLenNat_eq_zero {n : Word} {w : Handle} {r : Option Handle} (htx : 0 < txLenNat n w)
    (hio : ioLenNat n w r = 0) : ∃ h, r = some h ∧ h.len = 0 := by
  cases r with
  | none => exact absurd hio htx.ne'
  | some h =>
    refine ⟨h, rfl, (word_eq_zero_iff h.len).2 ?_⟩
    simp only [ioLenNat] at hio
    omega

/-- The hard fault of an operation issued on a clean TXF: a SUBMIT with an empty read buffer (R233). -/
inductive CommandFault : Instr → HardFault → Prop
  | emptyBurst {n : Word} {w h : Handle} (hlen : h.len = 0) :
      CommandFault (.submit n w (some h)) .watermarkUnderflow

section
variable {s : State} (hf : s.fault = none) (htxf : s.xfer.busy = false → s.link.txf = [])
include hf htxf

theorem byteExchange_faults {P : HardFault → Prop} (k : ByteKind) (v : Byte) : FaultsOnlyAs P (byteExchange k v s) := by
  refine faultsOnlyAs_whenInited hf fun _ => faultsOnlyAs_whenIdle hf fun hb => ?_
  rw [if_neg ((txFull_iff s).not.2 (by simp [htxf hb]))]
  exact faultsOnlyAs_of_no_fault hf

/-- The first burst fits a clean TXF, so the empty burst is all an accepted SUBMIT can meet (R173, R174, R231). -/
theorem acceptSubmit_faults {n : Word} {w : Handle} {r : Option Handle} (htx : 0 < txLenNat n w)
    (hb : s.xfer.busy = false) : FaultsOnlyAs (CommandFault (.submit n w r)) (acceptSubmit n w r s) := by
  rcases Nat.eq_zero_or_pos (ioLenNat n w r) with hio | hio
  · obtain ⟨h, rfl, hlen⟩ := read_buffer_empty_of_ioLenNat_eq_zero htx hio
    rw [acceptSubmit_of_empty_burst hf hio]
    exact faultsOnlyAs_of_fault rfl (.emptyBurst hlen)
  · have hfits : s.link.txf.length + min 7 (ioLenNat n w r) ≤ 8 := by
      rw [htxf hb, List.length_nil]
      omega
    rw [acceptSubmit_of_room hio hfits]
    exact faultsOnlyAs_of_no_fault hf

theorem execSubmit_faults (n : Word) (w : Handle) (r : Option Handle) :
    FaultsOnlyAs (CommandFault (.submit n w r)) (execSubmit n w r s) := by
  refine faultsOnlyAs_whenInited hf fun _ => ?_
  split
  · split
    · exact faultsOnlyAs_of_no_fault hf
    · next htx =>
      exact faultsOnlyAs_whenIdle hf
        (acceptSubmit_faults hf htxf (Nat.pos_of_ne_zero (mt (txLength_eq_zero_iff n w).2 htx)))
  · exact faultsOnlyAs_of_no_fault hf

theorem exec_faults (i : Instr) : FaultsOnlyAs (CommandFault i) (exec i s) := by
  cases i with
  | wrbyte | rdbyte | rwbyte => exact byteExchange_faults hf htxf _ _
  | submit n w r => exact execSubmit_faults hf htxf n w r
  | service => exact faultsOnlyAs_whenInited hf fun _ => faultsOnlyAs_of_no_fault hf
  | _ =>
    intro t f hm ht
    obtain ⟨-, -, -, -, -, hkept, -⟩ := controlOperationFrames _ s t rfl hm
    exact nomatch hf.symm.trans (hkept.symm.trans ht)

end

/-! ### The step -/

/-- The Shifter's one hard fault is a frame end on a full RXF (R210, R232). -/
theorem shiftIn_faults {s : State} (hf : s.fault = none) (p : Byte) :
    FaultsOnlyAs (· = .rxOverrun) (.next (shiftIn p s)) := by
  rcases shiftIn_cases p s with ⟨-, heq⟩ | ⟨-, -, heq⟩ | ⟨_, -, -, -, -, hkept⟩
  · rw [heq]
    exact faultsOnlyAs_of_no_fault hf
  · rw [heq, raiseHardFault_of_none _ hf]
    exact faultsOnlyAs_of_fault rfl rfl
  · exact faultsOnlyAs_of_no_fault (hkept.trans hf)

/-- Settles O54: the micro-steps and the operations and a frame end raise only the faults named for them;
no other agent raises one. -/
theorem unreachableHardFaultsStayUnreached : Obligations.UnreachableHardFaultsStayUnreached := by
  intro s t f h hb hf hstep ht
  by_cases hr : resetNext s
  · obtain ⟨rest, henv⟩ := hr
    cases (step_of_reset henv).symm.trans hstep
    exact nomatch ht
  obtain ⟨-, u, rfl, ha⟩ := step_agent hstep hr
  rw [countStep_fault] at ht
  cases ha with
  | micro rest hm =>
    cases (h.withEnv rest).microStep_faults hf _ f hm ht with
    | rxFifoEmpty | noClient => exact ⟨nofun, nofun, nofun, nofun⟩
    | noTxBuffer hc hidle => exact ⟨nofun, nofun, nofun, fun _ => ⟨hc, hidle⟩⟩
  | command rest hi hm =>
    have ⟨_, hc, _⟩ := hi
    cases exec_faults (s := { s with env := rest }) hf (Balanced.txf_empty_of_idle (s := s) h hb hf hc) _ _ f hm ht with
    | emptyBurst hlen => exact ⟨nofun, nofun, fun _ => ⟨_, _, _, hi, hlen⟩, nofun⟩
  | unknownCommand | host => exact nomatch hf.symm.trans ht
  | frameStart rest =>
    rw [shiftOut_fault] at ht
    exact nomatch hf.symm.trans ht
  | frameEnd p rest =>
    obtain rfl := shiftIn_faults (s := { s with env := rest }) hf p _ f rfl ht
    exact ⟨nofun, nofun, nofun, nofun⟩

end Sys2Proof.Machine

/-! PROOF. Reset and the state before INIT (`70_reset_and_hazards.md`): what a step but reset leaves set (R251), what reset
restores (R250), and which operations the block accepts before INIT (R253). -/

namespace Sys2Proof.Machine

/-! ## The state that only reset clears -/

/-- From `s` to `t` nothing is cleared that only reset clears: the client, `inited`, the pins (R251). -/
structure KeepsSticky (s t : State) : Prop where
  client (id : Word) (h : s.client = some id) : t.client = some id
  inited (h : s.inited = true) : t.inited = true
  pins : t.pinfn = s.pinfn ∨ t.pinfn = 0b1111

theorem KeepsSticky.of_eq {s t : State} (hc : t.client = s.client) (hi : t.inited = s.inited)
    (hp : t.pinfn = s.pinfn) : KeepsSticky s t where
  client _ := hc.trans
  inited := hi.trans
  pins := .inl hp

theorem KeepsSticky.of_env {s t : State} {rest : List Move} (h : KeepsSticky { s with env := rest } t) :
    KeepsSticky s t :=
  ⟨h.client, h.inited, h.pins⟩

/-- No micro-step writes the client, `inited` or the pins (R24, R41, R43). -/
theorem MicroEffect.keepsSticky {s t : State} (h : MicroEffect s t) : KeepsSticky s t := by
  cases h <;> exact .of_eq (by simp) (by simp) (by simp)

/-- Of the operations only SETCLIENT writes the client (R24). -/
theorem IssueEffect.client_eq {s t : State} {i : Instr} (h : IssueEffect s i t) :
    (∃ id, i = .setclient id) ∨ t.client = s.client := by
  cases h with
  | setclient => exact .inl ⟨_, rfl⟩
  | _ => exact .inr (by simp [primed])

/-- Of the operations only GPIOINIT writes the pins (R41). -/
theorem IssueEffect.pinfn_eq {s t : State} {i : Instr} (h : IssueEffect s i t) :
    t.pinfn = s.pinfn ∨ t.pinfn = 0b1111 := by
  cases h with
  | gpioinit => exact .inr rfl
  | _ => exact .inl (by simp [primed])

/-- A SETCLIENT with a client stored is answered ILLEGAL (R131), and no other operation writes the client. -/
theorem exec_keeps_client {i : Instr} {s t : State} {id : Word} (h : exec i s = .next t) (hid : s.client = some id) :
    t.client = some id := by
  rcases (exec_effect h).client_eq with ⟨new, rfl⟩ | heq
  · have hill : IsIllegal (.setclient new) s := .inr (.inl ⟨new, rfl, by simp [hid]⟩)
    obtain rfl : t = answered .illegal 0 s := Host.Outcome.next.inj (h.symm.trans (exec_of_isIllegal hill))
    exact hid
  · exact heq.trans hid

theorem exec_keepsSticky {i : Instr} {s t : State} (h : exec i s = .next t) : KeepsSticky s t where
  client _ := exec_keeps_client h
  inited := (exec_effect h).keeps_inited
  pins := (exec_effect h).pinfn_eq

theorem AgentStep.keepsSticky {s t : State} (h : AgentStep s t) : KeepsSticky s t := by
  cases h with
  | micro rest h => exact (microStep_effect h).keepsSticky.of_env
  | command rest _ h => exact (exec_keepsSticky h).of_env
  | unknownCommand | frameStart | frameEnd | host => exact .of_eq (by simp) (by simp) (by simp)

/-- Settles O47: a step but reset finds no hard fault, and its agent clears nothing. -/
theorem onlyResetClearsTheStickyState : Obligations.OnlyResetClearsTheStickyState := by
  intro s t hstep hr
  obtain ⟨hf, u, rfl, ha⟩ := step_agent hstep hr
  have hkept := ha.keepsSticky
  exact ⟨hf, hkept.client, hkept.inited, hkept.pins⟩

/-! ## Before INIT -/

/-- The operations accepted before INIT answer OK, SETCLIENT as long as no client is stored (R130 to R132, R200). -/
theorem exec_beforeInit_ok {i : Instr} {s : State} (hb : beforeInit i = true)
    (hc : ∀ id, i = .setclient id → s.client = none) : ∃ u d, exec i s = .next (respond .ok d u) ∧
      u.ports.responses = s.ports.responses := by
  cases i with
  | init => exact ⟨_, _, rfl, by simp⟩
  | setclient id => exact ⟨{ s with client := some id }, 0, by rw [exec, execSetclient, hc id rfl], rfl⟩
  | isbusy | gpioinit => exact ⟨_, _, rfl, rfl⟩
  | _ => cases hb

/-- Settles O9: the other operations have the prologue test, and `irq` reads no state before INIT. -/
theorem beforeInitOnlyFourOperationsRun : Obligations.BeforeInitOnlyFourOperationsRun := by
  refine fun s hi => ⟨fun i hb => exec_of_isIllegal (.inl ⟨hi, hb⟩), fun i hb hc => ?_, by simp [irq, hi]⟩
  obtain ⟨u, d, hexec, hresp⟩ := exec_beforeInit_ok hb hc
  exact ⟨_, d, hexec, by simp [hresp]⟩

/-! ## Reset -/

/-- Settles O45: reset writes the state right after reset (R44), both cells empty in it, and keeps BUF and the records. -/
theorem resetStepRestoresTheResetValues : Obligations.ResetStepRestoresTheResetValues := by
  intro s rest henv
  obtain ⟨hbusy, htxc, hrxc, hio, htx, hrx, hclient, htxf, hrxf, hsr, hcs, hfault, hcur, hpins, hinited, hready, -⟩ :=
    resetStateHasTheSpecifiedValues s.params
  exact ⟨_, step_of_reset henv, hbusy, htxc, hrxc, hio, htx, hrx, hclient, htxf, hrxf, hsr, hcs, hfault, hcur, hpins,
    hinited, fun _ => rfl, fun _ => rfl, rfl, rfl, rfl, hready, rfl⟩

end Sys2Proof.Machine
